-- ==== Sys2Proof/Word.lean ====
section
/-!
DEFINITION. The word types of the LD-72's two byte-serial ports and of its millisecond timer.
-/

namespace Sys2Proof

/-- One byte of the air port, the cab port or a table image. -/
abbrev Byte := BitVec 8

/-- A number sent in two bytes: an offer, job, message, shift, episode or driver number. -/
abbrev Half := BitVec 16

/-- A reading of the 48-bit millisecond timer (00_scope.md, Conventions, Time). -/
abbrev Stamp := BitVec 48

end Sys2Proof
end

