-- ==== Sys2Proof/Syntax.lean ====
section
/-!
DEFINITION. The commands of the LD-72: one constructor per row of spec/opcode_table.json.

Every command but the three supply commands carries the reading `t` of the millisecond timer at which
it is taken (log entry 1). A telegram command carries the bytes of its delivery that no
ARXD_BYTE_RECEIVED command has brought (log entry 4). A cab-port request carries the fields of its
body, at the widths of section 13.4 (log entry 5). A command that tests CALEN carries the pin's level
(log entry 6).
-/

namespace Sys2Proof

/-- The body of a LOAD OPEN (section 13.2). -/
structure LoadOpenArg where
  kind : Byte
  version : Half
  deriving DecidableEq, Repr

/-- The body of a LOAD DATA (section 13.2). -/
structure LoadDataArg where
  offset : Half
  data : List Byte
  deriving DecidableEq, Repr

/-- The port a load command comes through: a delivery on the air port, or a request on the cab port. -/
inductive LoadPort (α : Type) where
  | air (rx : List Byte)
  | cab (arg : α)
  deriving DecidableEq, Repr

/-- Why a cab-port frame is refused with FRAME at a byte (R202). -/
inductive FrameFault where
  /-- The length byte is over 64. -/
  | lengthOver (length : Byte)
  /-- The frame is complete and its check fails. -/
  | check
  /-- The frame is complete, its kind is a request kind, and its body length does not suit it. -/
  | bodyLength (kind : Byte)
  deriving DecidableEq, Repr

/-- The commands, in the order of the table. -/
inductive Instr where
  -- telegram arrivals (air port)
  | deliveryDropped (t : Stamp) (rx : List Byte)
  | siteBeacon (t : Stamp) (rx : List Byte)
  | timeSet (t : Stamp) (rx : List Byte)
  | offer (t : Stamp) (rx : List Byte)
  | withdraw (t : Stamp) (rx : List Byte)
  | award (t : Stamp) (rx : List Byte)
  | assign (t : Stamp) (rx : List Byte)
  | jobCancel (t : Stamp) (rx : List Byte)
  | message (t : Stamp) (rx : List Byte)
  | emergencyAck (t : Stamp) (rx : List Byte)
  | standDown (t : Stamp) (rx : List Byte)
  | tripRecall (t : Stamp) (rx : List Byte)
  | totalsQuery (t : Stamp) (rx : List Byte)
  | statusQueryIdentity (t : Stamp) (rx : List Byte)
  | statusQueryVersions (t : Stamp) (rx : List Byte)
  | statusQueryCounters (t : Stamp) (rx : List Byte)
  | statusQuerySnapshot (t : Stamp) (rx : List Byte)
  | bar (t : Stamp) (rx : List Byte)
  | reinstate (t : Stamp) (rx : List Byte)
  | restart (t : Stamp) (rx : List Byte)
  -- loads (air port or cab port)
  | loadOpen (t : Stamp) (calen : Bool) (port : LoadPort LoadOpenArg)
  | loadData (t : Stamp) (calen : Bool) (port : LoadPort LoadDataArg)
  | loadCommit (t : Stamp) (calen : Bool) (port : LoadPort Half)
  -- timers and channel events
  | settleExpiry (t : Stamp)
  | dwellExpiry (t : Stamp)
  | silenceExpiry (t : Stamp)
  | cdFall (t : Stamp)
  | cdRise (t : Stamp)
  | clearTimerExpiry (t : Stamp)
  | backoffEnd (t : Stamp)
  | transmissionComplete (t : Stamp)
  | bidRelease (t : Stamp)
  | bidDeadline (t : Stamp)
  | decisionDeadline (t : Stamp) (number : Half)
  | lapseTime (t : Stamp) (number : Half)
  -- cab-port requests
  | position (t : Stamp) (row col noFix : Byte)
  | accept (t : Stamp) (number : Half)
  | decline (t : Stamp) (number : Half)
  | arrived (t : Stamp) (job : Half)
  | noShow (t : Stamp) (job : Half)
  | shiftOpen (t : Stamp) (driver : Half)
  | shiftClose (t : Stamp)
  | hire (t : Stamp) (form : Byte)
  | stop (t : Stamp)
  | resume (t : Stamp)
  | pay (t : Stamp) (form : Byte)
  | extra (t : Stamp) (index : Byte)
  | readOfferTable (t : Stamp)
  | readOfferText (t : Stamp) (number : Half) (first : Byte)
  | readJobBook (t : Stamp)
  | readJobText (t : Stamp) (job : Half) (first : Byte)
  | readMeter (t : Stamp)
  | readTrip (t : Stamp) (sequence : BitVec 32)
  | readShift (t : Stamp) (which : Byte)
  | readMessageList (t : Stamp)
  | readMessageFields (t : Stamp) (number : Half)
  | readMessageText (t : Stamp) (number : Half) (first : Byte)
  | readMessagePhrase (t : Stamp) (number : Half) (phrase : Byte)
  | readLink (t : Stamp)
  | readEmergency (t : Stamp)
  | readCounters (t : Stamp)
  | markRead (t : Stamp) (number : Half)
  | reply (t : Stamp) (number : Half) (phrase : Byte)
  | send (t : Stamp) (phrase : Byte)
  | emergencyRequest (t : Stamp)
  | cancel (t : Stamp)
  | noticeMask (t : Stamp) (enables : Half)
  | unknownRequest (t : Stamp) (kind : Byte)
  | frameRefused (t : Stamp) (fault : FrameFault)
  | assemblyTimeout (t : Stamp)
  | frameSent (t : Stamp)
  -- wheel, seconds, messages, emergency inputs
  | wheelPulse (t : Stamp)
  | secondsTick (t : Stamp)
  | messageExpiry (t : Stamp) (number : Half)
  | emergPress (t : Stamp)
  | covertPress (t : Stamp)
  | graceExpiry (t : Stamp)
  | beaconDue (t : Stamp)
  -- supply and bytes
  | powerOn
  | vbakFall
  | arxdByteReceived (t : Stamp) (byte : Byte)
  | cabPortByteReceived (t : Stamp) (calen : Bool) (byte : Byte)
  | lossOfMainPower
  deriving DecidableEq, Repr

end Sys2Proof
end

