-- ==== Sys2Proof/Decode.lean ====
section
/-!
DEFINITION. The decoder of table words. The opcode table of this block gives its rows no bits, so no word
spells a command (log entry 20); the bytes of telegrams and frames are read in Machine/Operands.lean and
Machine/CabOps.lean.
-/

namespace Sys2Proof

/-- The command a word of the table's bits spells: none, for no row has bits. -/
def decodeTableWord (_nbits _w : Nat) : Option Instr := none

end Sys2Proof
end

