-- ==== Sys2Proof/Config.lean ====
section
/-!
DEFINITION. The constants the LD-72 fixes: capacities, limits and codes that no table load changes.
The spec leaves no value open, so there is no free value here.
-/

namespace Sys2Proof.Config

/-- Ceiling of a 16-bit counter (00_scope.md, Conventions, Counters). -/
def counterMax : Nat := 65535

/-- Ceiling of a sum (00_scope.md, Conventions, Money). -/
def sumMax : Nat := 4294967295

/-- Ceiling of a fare (00_scope.md, Conventions, Money). -/
def fareMax : Nat := 999999

/-- R1: the largest telegram, and the size of the receive buffer. -/
def deliveryMax : Nat := 104

/-- R5: the largest body of a telegram. -/
def bodyMax : Nat := 96

/-- R1: a delivery closes after this many milliseconds without a byte. -/
def deliveryGap : Nat := 5

/-- R34: entries of the uplink queue. -/
def queueMax : Nat := 12

/-- R68: entries of the offer table. -/
def offersMax : Nat := 6

/-- R93: QUEUED jobs of the job book. -/
def queuedMax : Nat := 2

/-- R160: messages of the message store. -/
def storeMax : Nat := 16

/-- R205: responses waiting. -/
def responsesMax : Nat := 4

/-- R205: notices waiting. -/
def noticesMax : Nat := 20

/-- R201: the largest body of a cab-port frame. -/
def frameBodyMax : Nat := 64

/-- R201: silence on CRXD that ends the assembly of a frame, in milliseconds. -/
def frameGap : Nat := 20

/-- Section 13.4: result bytes of one RESPONSE. -/
def resultMax : Nat := 61

/-- R207: display positions of one text read. -/
def textReadMax : Nat := 55

/-- R198: the part code of the IDENTITY reply. -/
def partCode : Nat := 0x72

/-- R198: the revision code of the IDENTITY reply. -/
def revisionCode : Nat := 0x01

/-- R39: the level of the beacon source. -/
def beaconLevel : Nat := 7

/-- R142: body bytes of a TRIP REPORT. -/
def tripReportBytes : Nat := 60

/-- R181: body bytes of a BEACON. -/
def beaconBytes : Nat := 19

/-- R137: the largest trip sequence number; the next after it is 1. -/
def sequenceMax : Nat := 4294967295

end Sys2Proof.Config
end

