-- ==== Sys2Proof/Machine/State.lean ====
section
/-!
DEFINITION. The state of the LD-72 as plain data, one structure per block of the block overview
(00_scope.md), and the state right after reset.
-/

namespace Sys2Proof.Machine

/-! ## Shared values -/

/-- A wall stamp: a day count with a second of day (00_scope.md, Conventions, Time). -/
structure WallStamp where
  day : Nat
  second : Nat
  deriving DecidableEq, Repr

/-- A display position (R154): a 7-bit display character or new line, with its emphasis flag. -/
structure DisplayPos where
  char : BitVec 7
  emphasis : Bool
  deriving DecidableEq, Repr

/-- A text produced by the expander (R154): its positions and its truncated flag. -/
structure Text where
  positions : List DisplayPos
  truncated : Bool
  deriving DecidableEq, Repr

/-- The bytes of a table image by offset: offsets strictly rising, no entry equal to 0xFF, which is
what an offset not listed reads as (R188: LOAD OPEN sets every byte to 0xFF). -/
abbrev Memory := List Host.Cell

/-- The kind of an offer or a job (R68, R92). -/
inductive JobKind where
  | street
  | prebook
  deriving DecidableEq, Repr

/-! ## Air Receiver (chapter 1) -/

/-- The seven receive counters (R15). -/
structure RxCounters where
  crcErrors : Nat
  lengthErrors : Nat
  uplinkHeard : Nat
  foreignFleet : Nat
  passedBy : Nat
  unknownKind : Nat
  barredDiscards : Nat
  deriving DecidableEq, Repr

/-- The names of the receive counters (R15). -/
inductive RxCounter where
  | crcErrors
  | lengthErrors
  | uplinkHeard
  | foreignFleet
  | passedBy
  | unknownKind
  | barredDiscards
  deriving DecidableEq, Repr

/-- A delivery in progress (R1): the first 104 bytes, the size, and the stamp of its last byte. -/
structure Delivery where
  bytes : List Byte
  size : Nat
  last : Nat
  deriving DecidableEq, Repr

/-- The Air Receiver: the open delivery, if any, and the receive counters. -/
structure Air where
  rx : Option Delivery
  counters : RxCounters
  deriving DecidableEq, Repr

/-! ## Link Controller (chapter 2) -/

/-- The role of a channel list entry (R19). -/
inductive Role where
  | home
  | alternate
  deriving DecidableEq, Repr

/-- An entry of the channel list (R19). `site` is none for ANY. -/
structure Channel where
  number : Nat
  site : Option Nat
  role : Role
  deriving DecidableEq, Repr

/-- The link state (section 2.2). -/
inductive LinkMode where
  | nochan
  | hunting
  | locked
  deriving DecidableEq, Repr

/-- The phase of HUNTING (section 2.2). -/
inductive HuntPhase where
  | settling
  | dwelling
  deriving DecidableEq, Repr

/-- The silence timer: off, running to a deadline (R24), or paused with the time left (R25). -/
inductive SilenceTimer where
  | off
  | running (deadline : Nat)
  | paused (left : Nat)
  deriving DecidableEq, Repr

/-- The Link Controller (section 2.2). `phase` is meaningful while HUNTING and `entry` outside NOCHAN;
`tuneWord` is the last tune word sent on ATXD (R20). -/
structure Link where
  mode : LinkMode
  phase : HuntPhase
  entry : Nat
  lockedSite : Option Nat
  settle : Option Nat
  dwell : Option Nat
  silence : SilenceTimer
  tunePending : Bool
  tuneWord : Option (List Byte)
  siteMismatches : Nat
  huntPasses : Nat
  deriving DecidableEq, Repr

/-! ## Uplink Scheduler (chapter 3) -/

/-- The kinds of the uplink queue (R34), in the order of the operating record. -/
inductive UplinkKind where
  | bid
  | awardRefusal
  | jobStatus
  | zoneChange
  | driverMessage
  | shiftReport
  | totalsReport
  | statusReply
  | loadResult
  deriving DecidableEq, Repr

/-- Where a queue entry stands: waiting, candidate of the access in progress, or on air (R33). -/
inductive EntryMark where
  | waiting
  | candidate
  | onAir
  deriving DecidableEq, Repr

/-- What a BID carries besides its body (R34). `held` is set when its release time was taken while the
link was not LOCKED (R48, R49); until the release is taken its slot is protected (log entry 9). -/
structure BidTimes where
  offer : Nat
  release : Nat
  deadline : Nat
  held : Bool
  deriving DecidableEq, Repr

/-- An entry of the uplink queue (R34). -/
structure Entry where
  kind : UplinkKind
  level : Nat
  attempts : Nat
  join : Nat
  body : List Byte
  bid : Option BidTimes
  mark : EntryMark
  deriving DecidableEq, Repr

/-- What an access or a transmission is for: the marked queue entry or a standing source (R33). -/
inductive Cand where
  | entry
  | trip
  | beacon
  deriving DecidableEq, Repr

/-- The item on air; a trip report with the sequence number it carries (R38). -/
inductive TxItem where
  | entry
  | trip (sequence : Nat)
  | beacon
  deriving DecidableEq, Repr

/-- A transmission in progress (R50): its item, the end of its air time, and the telegram. -/
structure Transmission where
  item : TxItem
  ends : Nat
  bytes : List Byte
  deriving DecidableEq, Repr

/-- The scheduler state (section 3.1). In CLEARING `expiry` is none while CD is high (R43). -/
inductive Sched where
  | idle
  | clearing (cand : Cand) (expiry : Option Nat)
  | backoff (cand : Cand) (ends : Nat)
  | onAir (tx : Transmission)
  deriving DecidableEq, Repr

/-- The Uplink Scheduler (chapter 3). -/
structure Uls where
  queue : List Entry
  rng : Nat
  window : Nat
  sched : Sched
  displaced : Nat
  drops : Nat
  bidsLost : Nat
  deriving DecidableEq, Repr

/-! ## Zone Unit (chapter 4) -/

/-- A cell of the position grid (R57). -/
structure Cell where
  row : Nat
  col : Nat
  deriving DecidableEq, Repr

/-- The Zone Unit (chapter 4). -/
structure ZoneUnit where
  cell : Option Cell
  stale : Bool
  zone : Nat
  deriving DecidableEq, Repr

/-! ## Offer Controller (chapter 5) -/

/-- The state of an offer entry (R68). -/
inductive OfferState where
  | offered
  | accepted
  | bidSent
  deriving DecidableEq, Repr

/-- An entry of the offer table (R68). The window start equals the decision deadline. -/
structure OfferEntry where
  number : Nat
  kind : JobKind
  zone : Nat
  reach : Bool
  required : BitVec 8
  price : Option Nat
  pickupTime : Option WallStamp
  summary : Text
  decision : Nat
  slot : Nat
  window : Nat
  lapse : Nat
  state : OfferState
  deriving DecidableEq, Repr

/-- The Offer Controller (chapter 5). -/
structure Offers where
  table : List OfferEntry
  passed : Nat
  displaced : Nat
  deriving DecidableEq, Repr

/-! ## Job Book (chapter 6) -/

/-- The source of a job (R92). -/
inductive JobSource where
  | award
  | assign
  deriving DecidableEq, Repr

/-- The state of a job (R92). -/
inductive JobState where
  | assigned
  | arrived
  | onBoard
  deriving DecidableEq, Repr

/-- A job record (R92). Its place is the place of the book it stands in. -/
structure Job where
  number : Nat
  source : JobSource
  offer : Option Nat
  kind : JobKind
  zone : Nat
  text : Text
  account : Option Nat
  price : Option Nat
  pickupTime : Option WallStamp
  state : JobState
  placed : Nat
  arrived : Option Nat
  deriving DecidableEq, Repr

/-- The Job Book (R93): the ACTIVE place, and the QUEUED jobs oldest first. -/
structure JobBook where
  active : Option Job
  queued : List Job
  deriving DecidableEq, Repr

/-! ## Meter (chapter 7) -/

/-- The meter state (R110). -/
inductive MeterMode where
  | offShift
  | vacant
  | hired
  | stopped
  deriving DecidableEq, Repr

/-- The mode of a tariff (R118). -/
inductive TariffMode where
  | single
  | double
  | distance
  | time
  deriving DecidableEq, Repr

/-- One tariff of a tariff set (R121). -/
structure Tariff where
  flagFall : Nat
  drop : Nat
  distance : Nat
  time : Nat
  firstStep : Nat
  mode : TariffMode
  deriving DecidableEq, Repr

/-- An entry of the band schedule (R124); bit 0 of the mask is Monday. -/
structure Band where
  days : BitVec 8
  start : Nat
  tariff : Nat
  deriving DecidableEq, Repr

/-- An extra of a tariff set: its amount and its maximum per trip (R121). -/
structure ExtraRate where
  amount : Nat
  maximum : Nat
  deriving DecidableEq, Repr

/-- A TARIFF SET (R121). `surcharges` holds the amounts of classes 1 to 3. -/
structure TariffSet where
  tariffs : List Tariff
  bands : List Band
  extras : List ExtraRate
  surcharges : List Nat
  grace : Nat
  effective : Option WallStamp
  deriving DecidableEq, Repr

/-- A committed tariff set with its version (R121, R186). -/
structure Bank where
  version : Nat
  set : TariffSet
  deriving DecidableEq, Repr

/-- The committed CALIBRATION with its version (R134, R186). -/
structure Calibration where
  version : Nat
  k : Nat
  vmax : Nat
  deriving DecidableEq, Repr

/-- The threshold kind of a trip (R117). -/
inductive ThresholdKind where
  | first
  | regular
  deriving DecidableEq, Repr

/-- The trip in progress (R117). -/
structure Trip where
  job : Option Nat
  shift : Nat
  start : Option WallStamp
  tariff : Nat
  firstTariff : Nat
  lastTariff : Nat
  progress : Nat
  threshold : ThresholdKind
  drops : Nat
  fare : Nat
  extras : Nat
  extrasCounts : List Nat
  surcharge : Nat
  price : Option Nat
  account : Option Nat
  seconds : Nat
  metres : Nat
  part : Bool
  stopStamp : Option Nat
  limit : Bool
  clamp : Bool
  resumed : Bool
  deriving DecidableEq, Repr

/-- The Meter (chapter 7). `m` is the metres of the second in progress. -/
structure Meter where
  mode : MeterMode
  residue : Nat
  m : Nat
  trip : Option Trip
  active : Option Bank
  pendingBank : Option Bank
  ready : Bool
  calibration : Option Calibration
  deriving DecidableEq, Repr

/-! ## Trip Recorder (chapter 8) -/

/-- The payment form of a trip record (R138). -/
inductive PayForm where
  | cash
  | card
  | account
  | unsettled
  deriving DecidableEq, Repr

/-- A trip record (R138). Its report state stands in the slot that holds it. -/
structure TripRecord where
  sequence : Nat
  job : Option Nat
  shift : Nat
  start : Option WallStamp
  seconds : Nat
  metres : Nat
  firstTariff : Nat
  lastTariff : Nat
  drops : Nat
  fare : Nat
  extras : Nat
  surcharge : Nat
  price : Option Nat
  charged : Nat
  form : PayForm
  account : Option Nat
  limit : Bool
  clamp : Bool
  resumed : Bool
  power : Bool
  deriving DecidableEq, Repr

/-- A held trip record with its report state and its (volatile) close stamp (R137). -/
structure HeldTrip where
  record : TripRecord
  reported : Bool
  closeStamp : Nat
  deriving DecidableEq, Repr

/-- A shift record (R145). -/
structure ShiftRecord where
  number : Nat
  driver : Nat
  opened : Option WallStamp
  closed : Option WallStamp
  trips : Nat
  fixedTrips : Nat
  interrupted : Nat
  hiredMetres : Nat
  hiredSeconds : Nat
  vacantMetres : Nat
  fareSum : Nat
  extrasSum : Nat
  surchargeSum : Nat
  chargedSum : Nat
  cashSum : Nat
  cardSum : Nat
  accountSum : Nat
  unsettledSum : Nat
  faults : Nat
  clampedMetres : Nat
  firstTrip : Option Nat
  lastTrip : Option Nat
  unreportedLost : Nat
  deriving DecidableEq, Repr

/-- The Trip Recorder (R137). Slot n of the log is the entry at index n. -/
structure Trips where
  log : List (Option HeldTrip)
  sequence : Nat
  current : Option ShiftRecord
  previous : Option ShiftRecord
  lastShift : Nat
  odometer : Nat
  deriving DecidableEq, Repr

/-! ## Message Store (chapter 9) -/

/-- The class of a message (R158). -/
inductive MsgClass where
  | normal
  | urgent
  | jobnote
  deriving DecidableEq, Repr

/-- The state of a message (R160). -/
inductive MsgState where
  | unread
  | read
  | replied
  deriving DecidableEq, Repr

/-- The lifetime of a message: remaining minutes, and the seconds counted of the current one (R160). -/
structure Lifetime where
  minutes : Nat
  seconds : Nat
  deriving DecidableEq, Repr

/-- A message record (R160). -/
structure Message where
  number : Nat
  cls : MsgClass
  job : Option Nat
  group : Option Nat
  state : MsgState
  received : Option WallStamp
  life : Option Lifetime
  text : Text
  deriving DecidableEq, Repr

/-- The Message Store (chapter 9). -/
structure Messages where
  store : List Message
  lost : Nat
  deriving DecidableEq, Repr

/-! ## Emergency Unit (chapter 10) -/

/-- The emergency state (R170). -/
inductive EmergencyState where
  | quiet
  | arming
  | active
  | acknowledged
  deriving DecidableEq, Repr

/-- The Emergency Unit (R170). `beacon` is the due time of the pending beacon. -/
structure Emergency where
  state : EmergencyState
  covert : Bool
  episode : Nat
  beacons : Nat
  presses : Nat
  cancels : Nat
  grace : Option Nat
  beacon : Option Nat
  deriving DecidableEq, Repr

/-! ## Dispatch Control Unit (chapter 11) -/

/-- The table kinds (R186). -/
inductive TableKind where
  | address
  | zoneMap
  | channels
  | tariffSet
  | phraseBook
  | operating
  | calibration
  deriving DecidableEq, Repr

/-- The address record (R16). -/
structure AddressRecord where
  fleet : Nat
  cab : Nat
  attributes : BitVec 8
  groups : List Nat
  deriving DecidableEq, Repr

/-- Level and attempt limit of one queue kind (section 13.6). -/
structure KindParams where
  level : Nat
  limit : Nat
  deriving DecidableEq, Repr

/-- The operating record (R187, section 13.6). -/
structure OpRecord where
  silence : Nat
  settle : Nat
  dwell : Nat
  slot : Nat
  clear : Nat
  minWindow : Nat
  maxWindow : Nat
  bitRate : Nat
  bid : KindParams
  awardRefusal : KindParams
  jobStatus : KindParams
  zoneChange : KindParams
  driverMessage : KindParams
  shiftReport : KindParams
  totalsReport : KindParams
  statusReply : KindParams
  loadResult : KindParams
  tripLevel : Nat
  beaconInterval : Nat
  trackingInterval : Nat
  grace : Nat
  awardWait : Nat
  noShowWait : Nat
  zoneReporting : Bool
  deriving DecidableEq, Repr

/-- A committed table with the version of its LOAD OPEN (R186). -/
structure Versioned (α : Type) where
  version : Nat
  table : α
  deriving DecidableEq, Repr

/-- A staged load (R188): kind, version and image. -/
structure Staged where
  kind : TableKind
  version : Nat
  image : Memory
  deriving DecidableEq, Repr

/-- The wall clock while it is set (R196). -/
structure WallClock where
  day : Nat
  dayOfWeek : Nat
  second : Nat
  deriving DecidableEq, Repr

/-- The Dispatch Control Unit (chapter 11). `clock` is none while the unset flag is set. -/
structure Dcu where
  staging : Option Staged
  address : Option (Versioned AddressRecord)
  zoneMap : Option (Versioned Memory)
  channels : Option (Versioned (List Channel))
  phrases : Option (Versioned Memory)
  operating : Option (Versioned OpRecord)
  barred : Bool
  clock : Option WallClock
  loadDiscarded : Nat
  retainedValid : Bool
  deriving DecidableEq, Repr

/-! ## Cab Port Controller (chapter 12) -/

/-- The notice kinds, in the order of section 12.4. -/
inductive NoticeKind where
  | offer
  | job
  | meter
  | message
  | emergency
  | link
  | table
  | bar
  | restart
  | clock
  deriving DecidableEq, Repr

/-- A frame waiting in the outgoing list (R204), or a RESPONSE that leaves in several (log entry 14). A
notice's dropped count is set when it begins to leave (R205). -/
inductive OutFrame where
  | response (kind code mark : Byte) (result : List Byte)
  | notice (kind : NoticeKind) (cause : Byte) (summary : List Byte)
  deriving DecidableEq, Repr

/-- Frame assembly on CRXD (R201): the bytes after the start byte, and the stamp of the last byte. -/
inductive Assembly where
  | hunt
  | frame (got : List Byte) (last : Nat)
  | discard (last : Nat)
  deriving DecidableEq, Repr

/-- The Cab Port Controller (chapter 12). -/
structure CabPort where
  assembly : Assembly
  sending : Option (List Byte)
  waiting : List OutFrame
  mask : BitVec 10
  noticesLost : Nat
  requestsOverrun : Nat
  overrunMark : Bool
  droppedSince : Nat
  deriving DecidableEq, Repr

/-! ## The whole part -/

/-- The state of the LD-72 and the commands waiting for it, first in first out. -/
structure State where
  ms : Stamp
  vdd : Bool
  vbakLatch : Bool
  cd : Bool
  calen : Bool
  air : Air
  link : Link
  uls : Uls
  zone : ZoneUnit
  offers : Offers
  jobs : JobBook
  meter : Meter
  trips : Trips
  msgs : Messages
  emu : Emergency
  dcu : Dcu
  cab : CabPort
  pending : List Instr
  deriving DecidableEq, Repr

/-- Reasons for a command to stop the part. The spec names none: every command has its effect, is
refused with a response, or has no effect. So nothing raises a fault, and there is no constructor. -/
inductive Fault where
  deriving DecidableEq, Repr

/-- Reasons for a command to have no meaning. -/
inductive Refusal where
  /-- Raised by `exec` alone, for a row of the table whose meaning is not written yet. Safe: the model
  stops where the part goes on. -/
  | notModelled (mnemonic : String)
  deriving DecidableEq, Repr

/-! ## Reset -/

/-- The receive counters all 0 (R15). -/
def RxCounters.zero : RxCounters :=
  { crcErrors := 0, lengthErrors := 0, uplinkHeard := 0, foreignFleet := 0, passedBy := 0,
    unknownKind := 0, barredDiscards := 0 }

/-- R18: no delivery open, every counter 0. -/
def Air.reset : Air := { rx := none, counters := RxCounters.zero }

/-- R32: NOCHAN, no timer, no pending tune word, counters 0. The phase and the entry index mean
nothing in NOCHAN; they hold SETTLING and 0 (log entry 21). -/
def Link.reset : Link :=
  { mode := .nochan, phase := .settling, entry := 0, lockedSite := none, settle := none, dwell := none,
    silence := .off, tunePending := false, tuneWord := none, siteMismatches := 0, huntPasses := 0 }

/-- R55 with no operating record and no address record: the window is the default minimum, 4, and the
generator is seeded with 0. -/
def Uls.reset : Uls :=
  { queue := [], rng := 0, window := 4, sched := .idle, displaced := 0, drops := 0, bidsLost := 0 }

/-- R67. -/
def ZoneUnit.reset : ZoneUnit := { cell := none, stale := true, zone := 0 }

/-- R91. -/
def Offers.reset : Offers := { table := [], passed := 0, displaced := 0 }

/-- R109. -/
def JobBook.reset : JobBook := { active := none, queued := [] }

/-- R135, with a retained store that is not valid. -/
def Meter.reset : Meter :=
  { mode := .offShift, residue := 0, m := 0, trip := none, active := none, pendingBank := none,
    ready := false, calibration := none }

/-- R153, with a retained store that is not valid. -/
def Trips.reset : Trips :=
  { log := List.replicate 16 none, sequence := 1, current := none, previous := none, lastShift := 0,
    odometer := 0 }

/-- R169. -/
def Messages.reset : Messages := { store := [], lost := 0 }

/-- R185. -/
def Emergency.reset : Emergency :=
  { state := .quiet, covert := false, episode := 0, beacons := 0, presses := 0, cancels := 0,
    grace := none, beacon := none }

/-- R199, R200, with a retained store that is not valid. -/
def Dcu.reset : Dcu :=
  { staging := none, address := none, zoneMap := none, channels := none, phrases := none,
    operating := none, barred := false, clock := none, loadDiscarded := 0, retainedValid := false }

/-- R208: HUNT, empty list, all kinds enabled, counts 0. -/
def CabPort.reset : CabPort :=
  { assembly := .hunt, sending := none, waiting := [], mask := 0x3FF, noticesLost := 0,
    requestsOverrun := 0, overrunMark := false, droppedSince := 0 }

/-- The part right after a power-on that finds the retained store not valid (R199): the CLOCK notice
with cause LOST is leaving, and the LINK notice of NOCHAN waits behind it (R208). The pins CD and
CALEN are low (log entries 6 and 7). -/
def State.reset : State :=
  { ms := 0, vdd := true, vbakLatch := false, cd := false, calen := false,
    air := Air.reset, link := Link.reset, uls := Uls.reset, zone := ZoneUnit.reset,
    offers := Offers.reset, jobs := JobBook.reset, meter := Meter.reset, trips := Trips.reset,
    msgs := Messages.reset, emu := Emergency.reset, dcu := Dcu.reset,
    cab :=
      { CabPort.reset with
        sending := some [0x7E, 0x03, 0x81, 0x09, 0x01, 0x00, 0x72]
        waiting := [.notice .link 2 [0, 0, 0, 0, 0, 0, 0, 0, 0, 0]] }
    pending := [] }

end Sys2Proof.Machine
end

