-- ==== Sys2Proof/Machine/Ops.lean ====
section
/-!
DEFINITION. The named operations every block uses: saturating numbers, numbers of several bytes, the
memory of a table image, the updates of one part of the state, the millisecond timer, and the outgoing
list of the cab port.
-/

namespace Sys2Proof.Machine

/-! ## Numbers -/

/-- One more, holding at 65,535 (00_scope.md, Conventions, Counters). -/
def countUp (n : Nat) : Nat := min Config.counterMax (n + 1)

/-- A sum, saturating at 4,294,967,295 (00_scope.md, Conventions, Money). -/
def sumUp (a b : Nat) : Nat := min Config.sumMax (a + b)

/-- The next of numbers that run from 1 to 65,535 and wrap past 0 (R145, R174). -/
def nextNumber (n : Nat) : Nat := if Config.counterMax ≤ n then 1 else n + 1

/-- The `width` bytes of a number, high byte first (chapter 13, first paragraph). -/
def be : Nat → Nat → List Byte
  | 0, _ => []
  | width + 1, n => BitVec.ofNat 8 (n / 256 ^ width) :: be width n

/-- The number that bytes spell, high byte first (chapter 13, first paragraph). -/
def nat (bytes : List Byte) : Nat := bytes.foldl (fun n b => n * 256 + b.toNat) 0

/-- The number in `width` bytes from an offset of a body. -/
def natAt (body : List Byte) (offset width : Nat) : Nat := nat ((body.drop offset).take width)

/-- The byte at an offset of a body, 0 beyond its end. -/
def byteAt (body : List Byte) (offset : Nat) : Byte := (body.drop offset).headD 0

/-- A wall stamp as sent: the day count in 2 bytes and the second of day in 3 (chapter 13). -/
def stampBytes (w : WallStamp) : List Byte := be 2 w.day ++ be 3 w.second

/-- A field that may be absent: a presence byte, then the value, or zeros in its place (R209). -/
def optional (width : Nat) : Option Nat → List Byte
  | some n => 1 :: be width n
  | none => 0 :: be width 0

/-- A wall stamp that may be absent, after a presence byte (R209). -/
def optionalStamp : Option WallStamp → List Byte
  | some w => 1 :: stampBytes w
  | none => 0 :: be 5 0

/-- A flag as a byte, 0 or 1. -/
def flagByte (b : Bool) : Byte := if b then 1 else 0

/-- Wall stamps are compared by day count first and second of day second (R196): `a` is at or before
`b`. -/
def WallStamp.atOrBefore (a b : WallStamp) : Bool :=
  a.day < b.day || (a.day == b.day && a.second ≤ b.second)

/-! ## The memory of a table image -/

/-- What a byte not written since LOAD OPEN reads as (R187, R188). -/
def Memory.unwritten : Byte := 0xFF

/-- The byte at an offset: the listed one, or 0xFF (R187). -/
def Memory.read : Memory → Nat → Byte
  | [], _ => Memory.unwritten
  | (a, b) :: rest, offset => if a = offset then b else Memory.read rest offset

/-- Put an entry for an offset, or none where the byte is the one an unlisted offset reads as. -/
def Memory.entry (offset : Nat) (byte : Byte) : Memory :=
  if byte = Memory.unwritten then [] else [(offset, byte)]

/-- Write one byte (R189), keeping offsets rising and no entry equal to 0xFF. -/
def Memory.write : Memory → Nat → Byte → Memory
  | [], offset, byte => Memory.entry offset byte
  | (a, b) :: rest, offset, byte =>
    if offset < a then Memory.entry offset byte ++ (a, b) :: rest
    else if offset = a then Memory.entry offset byte ++ rest
    else (a, b) :: Memory.write rest offset byte

/-- Write bytes from an offset on. -/
def Memory.writeAll : Memory → Nat → List Byte → Memory
  | m, _, [] => m
  | m, offset, b :: rest => Memory.writeAll (m.write offset b) (offset + 1) rest

/-- Read `count` bytes from an offset on. -/
def Memory.readAll (m : Memory) (offset : Nat) : Nat → List Byte
  | 0 => []
  | count + 1 => m.read offset :: Memory.readAll m (offset + 1) count

/-- The number in `width` bytes from an offset, high byte first. -/
def Memory.natAt (m : Memory) (offset width : Nat) : Nat := nat (m.readAll offset width)

/-- Every offset of an image is at or above `low`, rises strictly, and no entry holds 0xFF. -/
def Memory.wfFrom : Nat → Memory → Bool
  | _, [] => true
  | low, (a, b) :: rest => low ≤ a && b != Memory.unwritten && Memory.wfFrom (a + 1) rest

/-- The canonical form of an image. -/
def Memory.wf (m : Memory) : Bool := Memory.wfFrom 0 m

/-! ## Updates of one part of the state -/

/-- `s` with its `ms` replaced. -/
def State.setMs (s : State) (v : Stamp) : State := { s with ms := v }

/-- `s` with its `vdd` replaced. -/
def State.setVdd (s : State) (v : Bool) : State := { s with vdd := v }

/-- `s` with its `vbakLatch` replaced. -/
def State.setVbakLatch (s : State) (v : Bool) : State := { s with vbakLatch := v }

/-- `s` with its `cd` replaced. -/
def State.setCd (s : State) (v : Bool) : State := { s with cd := v }

/-- `s` with its `calen` replaced. -/
def State.setCalen (s : State) (v : Bool) : State := { s with calen := v }

/-- `s` with its `air` replaced. -/
def State.setAir (s : State) (v : Air) : State := { s with air := v }

/-- `s` with its `link` replaced. -/
def State.setLink (s : State) (v : Link) : State := { s with link := v }

/-- `s` with its `uls` replaced. -/
def State.setUls (s : State) (v : Uls) : State := { s with uls := v }

/-- `s` with its `zone` replaced. -/
def State.setZone (s : State) (v : ZoneUnit) : State := { s with zone := v }

/-- `s` with its `offers` replaced. -/
def State.setOffers (s : State) (v : Offers) : State := { s with offers := v }

/-- `s` with its `jobs` replaced. -/
def State.setJobs (s : State) (v : JobBook) : State := { s with jobs := v }

/-- `s` with its `meter` replaced. -/
def State.setMeter (s : State) (v : Meter) : State := { s with meter := v }

/-- `s` with its `trips` replaced. -/
def State.setTrips (s : State) (v : Trips) : State := { s with trips := v }

/-- `s` with its `msgs` replaced. -/
def State.setMsgs (s : State) (v : Messages) : State := { s with msgs := v }

/-- `s` with its `emu` replaced. -/
def State.setEmu (s : State) (v : Emergency) : State := { s with emu := v }

/-- `s` with its `dcu` replaced. -/
def State.setDcu (s : State) (v : Dcu) : State := { s with dcu := v }

/-- `s` with its `cab` replaced. -/
def State.setCab (s : State) (v : CabPort) : State := { s with cab := v }

/-- `s` with its `pending` replaced. -/
def State.setPending (s : State) (v : List Instr) : State := { s with pending := v }

/-! ## The millisecond timer -/

/-- The reading of the millisecond timer. -/
def State.now (s : State) : Nat := s.ms.toNat

/-- The timer comes to the stamp of a command; it does not run back (log entry 1). -/
def State.advanceTo (s : State) (t : Stamp) : State := if s.ms < t then s.setMs t else s

/-- A deadline is reached at its very instant and after (00_scope.md, Conventions, Deadlines). -/
def State.reached (s : State) (deadline : Nat) : Bool := deadline ≤ s.now

/-- A timer that may not be running has reached its deadline. -/
def State.timerReached (s : State) : Option Nat → Bool
  | some deadline => s.reached deadline
  | none => false

/-- An event of the part: the timer comes to the command's stamp and the event is taken. While main
power is absent the part takes no event (log entry 16). -/
def State.event (s : State) (t : Stamp) (act : State → State) : State :=
  if s.vdd then act (s.advanceTo t) else s

/-! ## The outgoing list of the cab port (section 12.3) -/

/-- The check byte of a frame: the two's complement of the sum of length, kind and body (R201). -/
def checkByte (kind : Byte) (body : List Byte) : Byte :=
  -(body.foldl (· + ·) (BitVec.ofNat 8 body.length + kind))

/-- A whole cab-port frame (R201). -/
def frameBytes (kind : Byte) (body : List Byte) : List Byte :=
  0x7E :: BitVec.ofNat 8 body.length :: kind :: body ++ [checkByte kind body]

/-- The code of a notice kind (section 13.4). -/
def NoticeKind.code : NoticeKind → Nat
  | .offer => 0
  | .job => 1
  | .meter => 2
  | .message => 3
  | .emergency => 4
  | .link => 5
  | .table => 6
  | .bar => 7
  | .restart => 8
  | .clock => 9

/-- A frame is a response. -/
def OutFrame.isResponse : OutFrame → Bool
  | .response .. => true
  | .notice .. => false

/-- What of a RESPONSE is still to leave after its first frame: nothing, or the result bytes past the 61st, as
a RESPONSE whose overrun mark is clear (section 13.4, R205, R207). Parts for the meter's trip and a shift record,
for which no rule gives any: DESIGN CHOICE (log entry 14). -/
def OutFrame.rest : OutFrame → List OutFrame
  | .response kind code _ result =>
    if Config.resultMax < result.length then [.response kind code 0 (result.drop Config.resultMax)] else []
  | .notice .. => []

/-- A frame begins to leave on CTXD. A RESPONSE takes up to 61 result bytes, and the rest of it waits before
all other frames (log entry 14); a notice takes the number of notices dropped since the last one began to
leave (R205). -/
def CabPort.begin (c : CabPort) : OutFrame → CabPort
  | .response kind code mark result =>
    { c with
      sending := some (frameBytes 0x80 (kind :: code :: mark :: result.take Config.resultMax))
      waiting := (OutFrame.response kind code mark result).rest ++ c.waiting }
  | .notice kind cause summary =>
    { c with
      sending := some (frameBytes 0x81
        (BitVec.ofNat 8 kind.code :: cause :: BitVec.ofNat 8 c.droppedSince :: summary))
      droppedSince := 0 }

/-- When CTXD is free the first waiting frame begins to leave (R204). -/
def CabPort.pump (c : CabPort) : CabPort :=
  match c.sending, c.waiting with
  | none, f :: rest => CabPort.begin { c with waiting := rest } f
  | _, _ => c

/-- A frame joins the outgoing list (R204). -/
def CabPort.join (c : CabPort) (f : OutFrame) : CabPort :=
  CabPort.pump { c with waiting := c.waiting ++ [f] }

/-- Responses waiting (R205). -/
def CabPort.responses (c : CabPort) : Nat := c.waiting.countP OutFrame.isResponse

/-- Notices waiting (R205). -/
def CabPort.notices (c : CabPort) : Nat := c.waiting.countP (fun f => !f.isResponse)

/-- A notice joins; with 20 waiting, the oldest is dropped and counted (R205). -/
def CabPort.joinNotice (c : CabPort) (f : OutFrame) : CabPort :=
  if Config.noticesMax ≤ c.notices then
    CabPort.join
      { c with
        waiting := c.waiting.eraseP (fun g => !g.isResponse)
        noticesLost := countUp c.noticesLost
        droppedSince := min 255 (c.droppedSince + 1) } f
  else c.join f

/-- A block raises a notice: it joins if its kind is enabled at that moment (R204, R206). -/
def State.raise (s : State) (kind : NoticeKind) (cause : Nat) (summary : List Byte) : State :=
  if s.cab.mask.getLsbD kind.code then
    s.setCab (s.cab.joinNotice (.notice kind (BitVec.ofNat 8 cause) summary))
  else s

/-- The response codes (section 13.4). -/
inductive RespCode where
  | done
  | state
  | argument
  | full
  | barred
  | emergency
  | locked
  | table
  | unknown
  | frame
  deriving DecidableEq, Repr

/-- The byte of a response code (section 13.4). -/
def RespCode.byte : RespCode → Byte
  | .done => 0
  | .state => 1
  | .argument => 2
  | .full => 3
  | .barred => 4
  | .emergency => 5
  | .locked => 6
  | .table => 7
  | .unknown => 8
  | .frame => 9

/-- A RESPONSE joins, carrying the overrun mark, which is then cleared (R204, R205), and every result field
in order (R209); a result of over 61 bytes leaves in parts (log entry 14). -/
def State.respond (s : State) (kind : Byte) (code : RespCode) (fields : List (List Byte)) : State :=
  s.setCab (CabPort.join { s.cab with overrunMark := false }
    (.response kind code.byte (flagByte s.cab.overrunMark) fields.flatten))

/-- What the owner of a request gives back: its state after, the response code and result fields. -/
structure Answer where
  state : State
  code : RespCode
  fields : List (List Byte)

/-- A request refused by its owner, with no result fields and no change (R203). -/
def State.refuse (s : State) (code : RespCode) : Answer := { state := s, code := code, fields := [] }

/-- A request carried out. -/
def State.doneWith (s : State) (fields : List (List Byte)) : Answer :=
  { state := s, code := .done, fields := fields }

/-- A request completes while four responses wait: it is not taken (R205). -/
def State.overrun (s : State) : State :=
  s.setCab
    { s.cab with requestsOverrun := countUp s.cab.requestsOverrun, overrunMark := true }

/-- A request that has arrived is taken by its owner and answered with one RESPONSE behind the notices
it raised (R203, R204), or overruns (R205). -/
def State.answer (s : State) (kind : Byte) (act : State → Answer) : State :=
  if Config.responsesMax ≤ s.cab.responses then s.overrun
  else
    let a := act s
    a.state.respond kind a.code a.fields

/-- Frame assembly returns to HUNT (R201). -/
def State.toHunt (s : State) : State := s.setCab { s.cab with assembly := .hunt }

/-- The event of a whole request arriving on the cab port (R201, R203). -/
def State.request (s : State) (t : Stamp) (kind : Byte) (act : State → Answer) : State :=
  s.event t fun s => s.toHunt.answer kind act

end Sys2Proof.Machine
end

