-- ==== Sys2Proof/Machine/Flags.lean ====
section
/-!
DEFINITION. The codes of states, kinds, forms and classes, and the flag bytes of bodies and records
(chapter 13). Where chapter 13 gives no code, the code is the place from 0 in the list of the rule that
names the value (R209).
-/

namespace Sys2Proof.Machine

/-! ## Codes -/

/-- Section 13.3: 0 OFF-SHIFT, 1 VACANT, 2 HIRED, 3 STOPPED. -/
def MeterMode.code : MeterMode → Nat
  | .offShift => 0
  | .vacant => 1
  | .hired => 2
  | .stopped => 3

/-- Section 13.3 (SNAPSHOT): 0 NOCHAN, 1 HUNTING, 2 LOCKED. -/
def LinkMode.code : LinkMode → Nat
  | .nochan => 0
  | .hunting => 1
  | .locked => 2

/-- By its place in section 2.2. -/
def HuntPhase.code : HuntPhase → Nat
  | .settling => 0
  | .dwelling => 1

/-- Section 13.6: 0 HOME, 1 ALTERNATE. -/
def Role.code : Role → Nat
  | .home => 0
  | .alternate => 1

/-- Section 13.2: 0 STREET, 1 PREBOOK. -/
def JobKind.code : JobKind → Nat
  | .street => 0
  | .prebook => 1

/-- By its place in R68. -/
def OfferState.code : OfferState → Nat
  | .offered => 0
  | .accepted => 1
  | .bidSent => 2

/-- By its place in R92. -/
def JobSource.code : JobSource → Nat
  | .award => 0
  | .assign => 1

/-- Section 13.3 (SNAPSHOT): 0 ASSIGNED, 1 ARRIVED, 2 ON-BOARD. -/
def JobState.code : JobState → Nat
  | .assigned => 0
  | .arrived => 1
  | .onBoard => 2

/-- Section 13.2: 0 NORMAL, 1 URGENT, 2 JOBNOTE. -/
def MsgClass.code : MsgClass → Nat
  | .normal => 0
  | .urgent => 1
  | .jobnote => 2

/-- By its place in R160. -/
def MsgState.code : MsgState → Nat
  | .unread => 0
  | .read => 1
  | .replied => 2

/-- Section 13.3 (SNAPSHOT): 0 QUIET to 3 ACKNOWLEDGED. -/
def EmergencyState.code : EmergencyState → Nat
  | .quiet => 0
  | .arming => 1
  | .active => 2
  | .acknowledged => 3

/-- By its place in R117. -/
def ThresholdKind.code : ThresholdKind → Nat
  | .first => 0
  | .regular => 1

/-- Section 13.3: 0 CASH, 1 CARD, 2 ACCOUNT, 3 UNSETTLED. -/
def PayForm.code : PayForm → Nat
  | .cash => 0
  | .card => 1
  | .account => 2
  | .unsettled => 3

/-- The payment form a PAY names (R131, section 13.4). -/
def PayForm.ofRequest (form : Byte) : Option PayForm :=
  if form = 0 then some .cash
  else if form = 1 then some .card
  else if form = 2 then some .account
  else none

/-- The table kinds by number (R186). -/
def TableKind.code : TableKind → Nat
  | .address => 1
  | .zoneMap => 2
  | .channels => 3
  | .tariffSet => 4
  | .phraseBook => 5
  | .operating => 6
  | .calibration => 7

/-- The table kind of a number, for 1 to 7 (R188). -/
def TableKind.ofCode (code : Nat) : Option TableKind :=
  match code with
  | 1 => some .address
  | 2 => some .zoneMap
  | 3 => some .channels
  | 4 => some .tariffSet
  | 5 => some .phraseBook
  | 6 => some .operating
  | 7 => some .calibration
  | _ => none

/-- The code of an uplink kind (section 13.3). -/
def UplinkKind.code : UplinkKind → Nat
  | .zoneChange => 0x81
  | .bid => 0x90
  | .awardRefusal => 0x91
  | .jobStatus => 0x92
  | .driverMessage => 0xA0
  | .shiftReport => 0xC1
  | .totalsReport => 0xC2
  | .statusReply => 0xD0
  | .loadResult => 0xE0

/-- The reasons of an AWARD REFUSAL (section 13.3). -/
inductive Reason where
  | bookFull
  | barred
  | emergency
  | lapsed
  | offShift
  deriving DecidableEq, Repr

/-- Section 13.3: 0 BOOK FULL, 1 BARRED, 2 EMERGENCY, 3 LAPSED, 4 OFF SHIFT. -/
def Reason.code : Reason → Nat
  | .bookFull => 0
  | .barred => 1
  | .emergency => 2
  | .lapsed => 3
  | .offShift => 4

/-- The statuses of a JOB STATUS (section 13.3). -/
inductive JobReport where
  | arrived
  | onBoard
  | noShow
  deriving DecidableEq, Repr

/-- Section 13.3: 0 ARRIVED, 1 ON-BOARD, 2 NO-SHOW. -/
def JobReport.code : JobReport → Nat
  | .arrived => 0
  | .onBoard => 1
  | .noShow => 2

/-- The outcomes of a LOAD COMMIT (R191), with the bad field's offset for INVALID. -/
inductive LoadOutcome where
  | done
  | notOpen
  | check
  | invalid (offset : Nat)
  | locked
  | busy
  deriving DecidableEq, Repr

/-- Section 13.3: 0 DONE, 1 NOT OPEN, 2 CHECK, 3 INVALID, 4 LOCKED, 5 BUSY. -/
def LoadOutcome.code : LoadOutcome → Nat
  | .done => 0
  | .notOpen => 1
  | .check => 2
  | .invalid _ => 3
  | .locked => 4
  | .busy => 5

/-- The bad field's offset, present for INVALID (R193). -/
def LoadOutcome.badOffset : LoadOutcome → Option Nat
  | .invalid offset => some offset
  | _ => none

/-- The response code of a cab-port LOAD COMMIT (R193). -/
def LoadOutcome.response : LoadOutcome → RespCode
  | .done => .done
  | .notOpen => .state
  | .busy => .state
  | .check => .argument
  | .invalid _ => .argument
  | .locked => .locked

/-! ## Notice causes, numbered from 0 in the order of the raising rule's table (section 13.4) -/

/-- The causes of R88. -/
inductive OfferCause where
  | new
  | displaced
  | lapsed
  | bidSent
  | withdrawn
  | awarded
  | hire
  deriving DecidableEq, Repr

/-- The number of an OFFER cause. -/
def OfferCause.code : OfferCause → Nat
  | .new => 0
  | .displaced => 1
  | .lapsed => 2
  | .bidSent => 3
  | .withdrawn => 4
  | .awarded => 5
  | .hire => 6

/-- The causes of R106. -/
inductive JobCause where
  | placed
  | promoted
  | cancelled
  deriving DecidableEq, Repr

/-- The number of a JOB cause. -/
def JobCause.code : JobCause → Nat
  | .placed => 0
  | .promoted => 1
  | .cancelled => 2

/-- The causes of R132, in the order it names them. -/
inductive MeterCause where
  | drop
  | tariff
  deriving DecidableEq, Repr

/-- The number of a METER cause. -/
def MeterCause.code : MeterCause → Nat
  | .drop => 0
  | .tariff => 1

/-- The causes of R167. -/
inductive MsgCause where
  | new
  | evicted
  | expired
  | jobGone
  deriving DecidableEq, Repr

/-- The number of a MESSAGE cause. -/
def MsgCause.code : MsgCause → Nat
  | .new => 0
  | .evicted => 1
  | .expired => 2
  | .jobGone => 3

/-- The causes of R183. -/
inductive EmergencyCause where
  | arming
  | cancelled
  | active
  | acknowledged
  | stoodDown
  | beaconSent
  deriving DecidableEq, Repr

/-- The number of an EMERGENCY cause. -/
def EmergencyCause.code : EmergencyCause → Nat
  | .arming => 0
  | .cancelled => 1
  | .active => 2
  | .acknowledged => 3
  | .stoodDown => 4
  | .beaconSent => 5

/-- The causes of a LINK notice (section 13.4). -/
inductive LinkCause where
  | locked
  | unlocked
  | powerOn
  deriving DecidableEq, Repr

/-- Section 13.4: 0 the link became LOCKED, 1 it left LOCKED, 2 power-on. -/
def LinkCause.code : LinkCause → Nat
  | .locked => 0
  | .unlocked => 1
  | .powerOn => 2

/-! ## Flag bytes -/

/-- A flag in bit `bit` of a flag byte. -/
def bitFlag (b : Bool) (bit : Nat) : Nat := if b then 2 ^ bit else 0

/-- The presence byte of a TRIP REPORT (section 13.3): bit 7 job, 6 start stamp, 5 fixed price,
4 account. -/
def TripRecord.presence (r : TripRecord) : Nat :=
  bitFlag r.job.isSome 7 + bitFlag r.start.isSome 6 + bitFlag r.price.isSome 5
    + bitFlag r.account.isSome 4

/-- The flags byte of a trip record (section 13.3): bit 0 LIMIT, 1 CLAMP, 2 RESUMED, 3 POWER. -/
def TripRecord.flags (r : TripRecord) : Nat :=
  bitFlag r.limit 0 + bitFlag r.clamp 1 + bitFlag r.resumed 2 + bitFlag r.power 3

/-- The flags byte of the trip in progress, in the same bit order (R209); POWER is not yet given. -/
def Trip.flags (p : Trip) : Nat :=
  bitFlag p.limit 0 + bitFlag p.clamp 1 + bitFlag p.resumed 2

/-- The presence byte of a SHIFT REPORT (section 13.3): bit 7 open stamp, 6 close stamp, 5 first and
last sequence numbers. -/
def ShiftRecord.presence (r : ShiftRecord) : Nat :=
  bitFlag r.opened.isSome 7 + bitFlag r.closed.isSome 6 + bitFlag r.firstTrip.isSome 5

/-- The flags byte of a BEACON (section 13.3): bit 7 covert, 6 acknowledged, 5 cell present, 4 stale,
3 job present. -/
def beaconFlags (covert acknowledged cell stale job : Bool) : Nat :=
  bitFlag covert 7 + bitFlag acknowledged 6 + bitFlag cell 5 + bitFlag stale 4 + bitFlag job 3

/-- The emergency byte of a SNAPSHOT (section 13.3): the state in bits 1 to 0, covert in bit 2, barred
in bit 3. -/
def snapshotFlags (state : EmergencyState) (covert barred : Bool) : Nat :=
  state.code + bitFlag covert 2 + bitFlag barred 3

/-- The job byte of a SNAPSHOT (section 13.3): the ACTIVE job's state in bits 7 to 6, 3 for none, and
the QUEUED count in bits 1 to 0. -/
def snapshotJobs (active : Option Job) (queued : Nat) : Nat :=
  (match active with
    | some j => j.state.code
    | none => 3) * 64 + queued % 4

/-- A display position as a byte (section 13.4): the character, with the emphasis flag in bit 7. -/
def DisplayPos.byte (p : DisplayPos) : Byte :=
  BitVec.ofNat 8 (p.char.toNat + bitFlag p.emphasis 7)

/-! ## Tests of states that several rules make -/

/-- A call is ACTIVE or ACKNOWLEDGED. -/
def Emergency.inCall (e : Emergency) : Bool :=
  e.state == .active || e.state == .acknowledged

/-- R71, R76, R82, R96: ACTIVE or ACKNOWLEDGED with the covert flag clear. -/
def Emergency.overtCall (e : Emergency) : Bool := e.inCall && !e.covert

/-- R78, R113, R176: ACTIVE or ACKNOWLEDGED with the covert flag set. -/
def Emergency.covertCall (e : Emergency) : Bool := e.inCall && e.covert

/-- Every flag of `need` is among `held` (R71 condition 4). -/
def hasAttributes (need held : BitVec 8) : Bool := need &&& held == need

end Sys2Proof.Machine
end

