-- ==== Sys2Proof/Machine/Operands.lean ====
section
/-!
DEFINITION. The operand forms of the telegrams: header, CRC, the bodies of the downlink kinds with the
ranges their owners test, and the codes of a text field (sections 13.1 and 13.2).
-/

namespace Sys2Proof.Machine

/-! ## CRC and header -/

/-- One bit of the CRC of R4. -/
def crcBit (r : BitVec 16) (b : Bool) : BitVec 16 :=
  if r.msb != b then (r <<< 1) ^^^ 0x1021 else r <<< 1

/-- One byte of the CRC of R4, most significant bit first. -/
def crcByte (r : BitVec 16) (b : Byte) : BitVec 16 :=
  [7, 6, 5, 4, 3, 2, 1, 0].foldl (fun r i => crcBit r (b.getLsbD i)) r

/-- The CRC of header and body (R4). -/
def crc (bytes : List Byte) : BitVec 16 := bytes.foldl crcByte 0xFFFF

/-- A telegram's header fields and body (section 13.1). -/
structure Header where
  fleet : Nat
  addressKind : Nat
  uplink : Bool
  address : Nat
  site : Nat
  kind : Nat
  length : Nat
  deriving DecidableEq, Repr

/-- The header a delivery carries in its first six bytes (section 13.1). -/
def Header.read (bytes : List Byte) : Header :=
  let b := fun i => (byteAt bytes i).toNat
  { fleet := b 0 * 16 + b 1 / 16
    addressKind := b 1 / 4 % 4
    uplink := b 1 / 2 % 2 = 1
    address := b 2 * 16 + b 3 / 16
    site := b 3 % 16
    kind := b 4
    length := b 5 }

/-- The six bytes of a header (section 13.1). -/
def Header.write (h : Header) : List Byte :=
  [BitVec.ofNat 8 (h.fleet / 16),
   BitVec.ofNat 8 (h.fleet % 16 * 16 + h.addressKind % 4 * 4 + bitFlag h.uplink 1),
   BitVec.ofNat 8 (h.address / 16),
   BitVec.ofNat 8 (h.address % 16 * 16 + h.site % 16),
   BitVec.ofNat 8 h.kind,
   BitVec.ofNat 8 h.length]

/-- A whole telegram: header, body and CRC, high byte first (section 13.1, R50). -/
def telegramBytes (h : Header) (body : List Byte) : List Byte :=
  let bytes := Header.write { h with length := body.length } ++ body
  bytes ++ be 2 (crc bytes).toNat

/-! ## Downlink kinds -/

/-- The nineteen downlink kinds (section 13.2). -/
inductive DownKind where
  | siteBeacon
  | timeSet
  | offer
  | withdraw
  | award
  | assign
  | jobCancel
  | message
  | emergencyAck
  | standDown
  | tripRecall
  | totalsQuery
  | statusQuery
  | bar
  | reinstate
  | restart
  | loadOpen
  | loadData
  | loadCommit
  deriving DecidableEq, Repr

/-- The kind of a code (section 13.2); none for a code that is no downlink code (R11). -/
def DownKind.ofCode (code : Nat) : Option DownKind :=
  match code with
  | 0x01 => some .siteBeacon
  | 0x02 => some .timeSet
  | 0x10 => some .offer
  | 0x11 => some .withdraw
  | 0x12 => some .award
  | 0x13 => some .assign
  | 0x14 => some .jobCancel
  | 0x20 => some .message
  | 0x30 => some .emergencyAck
  | 0x31 => some .standDown
  | 0x40 => some .tripRecall
  | 0x41 => some .totalsQuery
  | 0x50 => some .statusQuery
  | 0x58 => some .bar
  | 0x59 => some .reinstate
  | 0x5A => some .restart
  | 0x60 => some .loadOpen
  | 0x61 => some .loadData
  | 0x62 => some .loadCommit
  | _ => none

/-- The code of a kind (section 13.2). -/
def DownKind.code : DownKind → Nat
  | .siteBeacon => 0x01
  | .timeSet => 0x02
  | .offer => 0x10
  | .withdraw => 0x11
  | .award => 0x12
  | .assign => 0x13
  | .jobCancel => 0x14
  | .message => 0x20
  | .emergencyAck => 0x30
  | .standDown => 0x31
  | .tripRecall => 0x40
  | .totalsQuery => 0x41
  | .statusQuery => 0x50
  | .bar => 0x58
  | .reinstate => 0x59
  | .restart => 0x5A
  | .loadOpen => 0x60
  | .loadData => 0x61
  | .loadCommit => 0x62

/-- The least and greatest body lengths of a kind (section 13.2, R11). -/
def DownKind.bounds : DownKind → Nat × Nat
  | .siteBeacon => (1, 1)
  | .timeSet => (6, 6)
  | .offer => (15, 96)
  | .withdraw => (2, 2)
  | .award => (16, 76)
  | .assign => (15, 96)
  | .jobCancel => (2, 2)
  | .message => (6, 96)
  | .emergencyAck => (2, 2)
  | .standDown => (2, 2)
  | .tripRecall => (4, 4)
  | .totalsQuery => (1, 1)
  | .statusQuery => (2, 2)
  | .bar => (0, 0)
  | .reinstate => (0, 0)
  | .restart => (0, 0)
  | .loadOpen => (3, 3)
  | .loadData => (3, 66)
  | .loadCommit => (2, 2)

/-- A body length within its kind's bounds (R11). -/
def DownKind.fits (k : DownKind) (length : Nat) : Bool :=
  k.bounds.1 ≤ length && length ≤ k.bounds.2

/-- The kinds the barred filter passes (R13). -/
def DownKind.passesBar : DownKind → Bool
  | .siteBeacon => true
  | .timeSet => true
  | .message => true
  | .emergencyAck => true
  | .standDown => true
  | .statusQuery => true
  | .reinstate => true
  | .offer => false
  | .withdraw => false
  | .award => false
  | .assign => false
  | .jobCancel => false
  | .tripRecall => false
  | .totalsQuery => false
  | .bar => false
  | .restart => false
  | .loadOpen => false
  | .loadData => false
  | .loadCommit => false

/-- The match class of a telegram (R8). -/
inductive MatchClass where
  | cab
  | group
  | zone
  | neighbour
  | all
  deriving DecidableEq, Repr

/-- What the Air Receiver hands to an owner (R14); the arrival stamp is the timer's reading. -/
structure Telegram where
  fleet : Nat
  addressKind : Nat
  address : Nat
  site : Nat
  kind : DownKind
  body : List Byte
  cls : MatchClass
  deriving DecidableEq, Repr

/-! ## Text fields -/

/-- The 6-bit codes of a text field, four in three bytes (section 13.1). -/
def unpackCodes : List Byte → List Nat
  | a :: b :: c :: rest =>
    a.toNat / 4 :: (a.toNat % 4 * 16 + b.toNat / 16) :: (b.toNat % 16 * 4 + c.toNat / 64)
      :: c.toNat % 64 :: unpackCodes rest
  | [a, b] => [a.toNat / 4, a.toNat % 4 * 16 + b.toNat / 16]
  | [a] => [a.toNat / 4]
  | [] => []

/-! ## Bodies (section 13.2) -/

/-- Bit `bit` of the byte at an offset of a body. -/
def bitAt (body : List Byte) (offset bit : Nat) : Bool := (byteAt body offset).getLsbD bit

/-- A field whose presence mark says whether it is read (R209). -/
def presentNat (mark : Bool) (body : List Byte) (offset width : Nat) : Option Nat :=
  if mark then some (natAt body offset width) else none

/-- A wall stamp whose presence mark says whether it is read (R209). -/
def presentStamp (mark : Bool) (body : List Byte) (offset : Nat) : Option WallStamp :=
  if mark then some { day := natAt body offset 2, second := natAt body (offset + 2) 3 } else none

/-- The kind in bit 7 of a flag byte. -/
def kindOfBit (b : Bool) : JobKind := if b then .prebook else .street

/-- A value that is absent, or satisfies a test. -/
def absentOr {α : Type} (test : α → Bool) : Option α → Bool
  | some a => test a
  | none => true

/-- A second of day is 0 to 86,399; every 2-byte day count is in range. -/
def WallStamp.inRange (w : WallStamp) : Bool := w.second ≤ 86399

/-- A fixed price is 0 to 999,999. -/
def priceInRange (price : Option Nat) : Bool := absentOr (fun p => p ≤ Config.fareMax) price

/-- An account number is 1 to 16,777,215. -/
def accountInRange (account : Option Nat) : Bool := absentOr (fun a => 1 ≤ a) account

/-- The body of an OFFER. -/
structure OfferBody where
  number : Nat
  kind : JobKind
  reach : Bool
  zone : Nat
  decision : Nat
  window : Nat
  required : BitVec 8
  price : Option Nat
  pickupTime : Option WallStamp
  codes : List Nat
  deriving DecidableEq, Repr

/-- Read an OFFER. -/
def OfferBody.read (body : List Byte) : OfferBody :=
  { number := natAt body 0 2
    kind := kindOfBit (bitAt body 2 7)
    reach := bitAt body 2 6
    zone := natAt body 3 1
    decision := natAt body 4 1
    window := natAt body 5 1
    required := byteAt body 6
    price := presentNat (bitAt body 2 5) body 7 3
    pickupTime := presentStamp (bitAt body 2 4) body 10
    codes := unpackCodes (body.drop 15) }

/-- The ranges of R69. -/
def OfferBody.inRange (o : OfferBody) : Bool :=
  1 ≤ o.number && (1 ≤ o.zone && o.zone ≤ 250) && (5 ≤ o.decision && o.decision ≤ 60)
    && (1 ≤ o.window && o.window ≤ 32) && priceInRange o.price
    && absentOr WallStamp.inRange o.pickupTime

/-- The body of an AWARD. -/
structure AwardBody where
  offer : Nat
  job : Nat
  kind : JobKind
  account : Option Nat
  price : Option Nat
  pickupTime : Option WallStamp
  codes : List Nat
  deriving DecidableEq, Repr

/-- Read an AWARD. -/
def AwardBody.read (body : List Byte) : AwardBody :=
  { offer := natAt body 0 2
    job := natAt body 2 2
    kind := kindOfBit (bitAt body 4 7)
    account := presentNat (bitAt body 4 6) body 5 3
    price := presentNat (bitAt body 4 5) body 8 3
    pickupTime := presentStamp (bitAt body 4 4) body 11
    codes := unpackCodes (body.drop 16) }

/-- The ranges of R82. -/
def AwardBody.inRange (a : AwardBody) : Bool :=
  1 ≤ a.offer && 1 ≤ a.job && accountInRange a.account && priceInRange a.price
    && absentOr WallStamp.inRange a.pickupTime

/-- The body of an ASSIGN. -/
structure AssignBody where
  job : Nat
  kind : JobKind
  zone : Nat
  account : Option Nat
  price : Option Nat
  pickupTime : Option WallStamp
  codes : List Nat
  deriving DecidableEq, Repr

/-- Read an ASSIGN. -/
def AssignBody.read (body : List Byte) : AssignBody :=
  { job := natAt body 0 2
    kind := kindOfBit (bitAt body 2 7)
    zone := natAt body 3 1
    account := presentNat (bitAt body 2 6) body 4 3
    price := presentNat (bitAt body 2 5) body 7 3
    pickupTime := presentStamp (bitAt body 2 4) body 10
    codes := unpackCodes (body.drop 15) }

/-- The ranges of R96. -/
def AssignBody.inRange (a : AssignBody) : Bool :=
  1 ≤ a.job && (1 ≤ a.zone && a.zone ≤ 250) && accountInRange a.account && priceInRange a.price
    && absentOr WallStamp.inRange a.pickupTime

/-- The class in bits 7 to 6 of a MESSAGE's flags; 3 is out of range. -/
def MsgClass.ofCode (code : Nat) : Option MsgClass :=
  match code with
  | 0 => some .normal
  | 1 => some .urgent
  | 2 => some .jobnote
  | _ => none

/-- The body of a MESSAGE. -/
structure MessageBody where
  number : Nat
  cls : Option MsgClass
  job : Option Nat
  group : Option Nat
  lifetime : Option Nat
  codes : List Nat
  deriving DecidableEq, Repr

/-- Read a MESSAGE. -/
def MessageBody.read (body : List Byte) : MessageBody :=
  let flags := natAt body 2 1
  { number := natAt body 0 2
    cls := MsgClass.ofCode (flags / 64)
    job := presentNat (bitAt body 2 5) body 3 2
    group := if bitAt body 2 4 then some (flags % 8) else none
    lifetime := presentNat (bitAt body 2 3) body 5 1
    codes := unpackCodes (body.drop 6) }

/-- The ranges of R158. -/
def MessageBody.inRange (m : MessageBody) : Bool :=
  1 ≤ m.number && m.cls.isSome && absentOr (fun j => 1 ≤ j) m.job
    && absentOr (fun l => 1 ≤ l) m.lifetime

/-- The body of a TIME SET. -/
def WallClock.read (body : List Byte) : WallClock :=
  { day := natAt body 0 2, dayOfWeek := natAt body 2 1, second := natAt body 3 3 }

/-- The ranges of R197. -/
def WallClock.inRange (c : WallClock) : Bool := c.dayOfWeek ≤ 6 && c.second ≤ 86399

/-- The body of a LOAD OPEN. -/
def loadOpenArg (body : List Byte) : LoadOpenArg :=
  { kind := byteAt body 0, version := BitVec.ofNat 16 (natAt body 1 2) }

/-- The body of a LOAD DATA. -/
def loadDataArg (body : List Byte) : LoadDataArg :=
  { offset := BitVec.ofNat 16 (natAt body 0 2), data := body.drop 2 }

end Sys2Proof.Machine
end

