-- ==== Sys2Proof/Machine/Records.lean ====
section
/-!
DEFINITION. How the blocks read the committed tables: the address record, the operating record with
its defaults, the channel list, the zone map and the phrase book; and the wall clock as a stamp.
-/

namespace Sys2Proof.Machine

/-! ## Operating record (R53, R187, section 13.6) -/

/-- The defaults while no OPERATING RECORD is committed (R28, R53, R62, R72, R101, R172, R180). -/
def OpRecord.defaults : OpRecord :=
  { silence := 30, settle := 50, dwell := 6, slot := 40, clear := 20, minWindow := 4, maxWindow := 32,
    bitRate := 4800
    bid := { level := 6, limit := 0 }
    awardRefusal := { level := 5, limit := 4 }
    jobStatus := { level := 4, limit := 8 }
    zoneChange := { level := 3, limit := 2 }
    driverMessage := { level := 3, limit := 8 }
    shiftReport := { level := 2, limit := 0 }
    totalsReport := { level := 2, limit := 4 }
    statusReply := { level := 1, limit := 4 }
    loadResult := { level := 1, limit := 4 }
    tripLevel := 2, beaconInterval := 10, trackingInterval := 60, grace := 3, awardWait := 5,
    noShowWait := 180, zoneReporting := true }

/-- The level and attempt limit of a queue kind. -/
def OpRecord.params (o : OpRecord) : UplinkKind → KindParams
  | .bid => o.bid
  | .awardRefusal => o.awardRefusal
  | .jobStatus => o.jobStatus
  | .zoneChange => o.zoneChange
  | .driverMessage => o.driverMessage
  | .shiftReport => o.shiftReport
  | .totalsReport => o.totalsReport
  | .statusReply => o.statusReply
  | .loadResult => o.loadResult

/-- The operating record in force. -/
def State.op (s : State) : OpRecord :=
  match s.dcu.operating with
  | some v => v.table
  | none => OpRecord.defaults

/-! ## Address record (R16) -/

/-- The absent record: fleet and cab number 0, no attribute, no group. -/
def AddressRecord.absent : AddressRecord := { fleet := 0, cab := 0, attributes := 0, groups := [] }

/-- The address record in force. -/
def State.address (s : State) : AddressRecord :=
  match s.dcu.address with
  | some v => v.table
  | none => AddressRecord.absent

/-! ## Channel list (R19) -/

/-- The channel list in force; empty while no CHANNELS table is committed. -/
def State.channels (s : State) : List Channel :=
  match s.dcu.channels with
  | some v => v.table
  | none => []

/-! ## Zone map (R57, R58, section 13.6) -/

/-- The zone of a cell (R57). -/
def State.zoneAt (s : State) (c : Cell) : Nat :=
  match s.dcu.zoneMap with
  | some v => (v.table.read (c.row * 64 + c.col)).toNat
  | none => 0

/-- Byte `i` of the directory entry of a zone, 0 for zone 0 and while no map is committed (R58). -/
def State.directoryByte (s : State) (zone i : Nat) : Nat :=
  match s.dcu.zoneMap with
  | some v => if zone = 0 then 0 else (v.table.read (4096 + (zone - 1) * 8 + i)).toNat
  | none => 0

/-- The neighbour set of a zone (R58). -/
def State.neighbours (s : State) (zone : Nat) : List Nat :=
  ([0, 1, 2, 3, 4, 5].map (s.directoryByte zone)).filter (fun n => n != 0)

/-- The surcharge class of a zone (R58). -/
def State.surchargeClass (s : State) (zone : Nat) : Nat := s.directoryByte zone 6

/-- The rank flag of a zone (R58). -/
def State.rankFlag (s : State) (zone : Nat) : Bool := s.directoryByte zone 7 = 1

/-! ## Phrase book (R156, R165, section 13.6) -/

/-- The characters of a phrase; none when the book holds it with 0 characters. -/
def phraseChars (book : Memory) (phrase : Nat) : List (BitVec 7) :=
  (book.readAll (phrase * 41 + 1) (book.read (phrase * 41)).toNat).map (fun b => b.setWidth 7)

/-- The members of a reply group: the non-zero bytes before the first 0 (section 13.6). -/
def groupMembers (book : Memory) (group : Nat) : List Nat :=
  ((book.readAll (5248 + group * 8) 8).map (fun b => b.toNat)).takeWhile (fun n => n != 0)

/-- The phrase book committed now. -/
def State.book (s : State) : Option Memory := s.dcu.phrases.map (fun v => v.table)

/-! ## Job book (R93) -/

/-- The jobs in the book: the ACTIVE job, then the QUEUED jobs in placement order. -/
def JobBook.jobs (b : JobBook) : List Job := b.active.toList ++ b.queued

/-- A job number is held in the book, in any place and state. -/
def JobBook.holds (b : JobBook) (number : Nat) : Bool := b.jobs.any (fun j => j.number == number)

/-! ## Wall clock (R196) -/

/-- The wall clock as a stamp, absent while it is unset. -/
def State.wallStamp (s : State) : Option WallStamp :=
  s.dcu.clock.map (fun c => { day := c.day, second := c.second })

end Sys2Proof.Machine
end

