-- ==== Sys2Proof/Machine/Bodies.lean ====
section
/-!
DEFINITION. The bodies of the uplinks (section 13.3), the charged amount they carry (R130), and the
order of the trip log by age (R141).
-/

namespace Sys2Proof.Machine

/-! ## Charged amount (R130) -/

/-- The charged amount before the limit of R130. -/
def Trip.uncapped (p : Trip) : Nat :=
  match p.price with
  | some price => price + p.extras
  | none => p.fare + p.extras + p.surcharge

/-- The charged amount of the trip in progress (R130). -/
def Trip.charged (p : Trip) : Nat := min Config.fareMax p.uncapped

/-- R130: a charged amount held at 999,999 by the limit sets LIMIT when it is found at a drop, an EXTRA
or the close. -/
def Trip.findCharged (p : Trip) : Trip :=
  { p with limit := p.limit || Config.fareMax < p.uncapped }

/-- The charged amount so far: 0 while no trip is in progress (R133). -/
def State.chargedSoFar (s : State) : Nat :=
  match s.meter.trip with
  | some p => p.charged
  | none => 0

/-! ## The trip log by age (R141) -/

/-- How far a number is behind the trip sequence counter, counted back through the wrap. -/
def Trips.age (t : Trips) (sequence : Nat) : Nat :=
  (t.sequence + Config.sequenceMax - sequence) % Config.sequenceMax

/-- The held records, by slot. -/
def Trips.held (t : Trips) : List HeldTrip := t.log.filterMap id

/-- The UNREPORTED records held, by slot. -/
def Trips.unreported (t : Trips) : List HeldTrip := t.held.filter (fun h => !h.reported)

/-- The record furthest behind the counter among some records. -/
def Trips.oldestOf (t : Trips) (l : List HeldTrip) : Option HeldTrip :=
  l.foldl
    (fun best h =>
      match best with
      | none => some h
      | some b => if t.age b.record.sequence < t.age h.record.sequence then some h else some b)
    none

/-- The record least far behind the counter among some records. -/
def Trips.newestOf (t : Trips) (l : List HeldTrip) : Option HeldTrip :=
  l.foldl
    (fun best h =>
      match best with
      | none => some h
      | some b => if t.age h.record.sequence < t.age b.record.sequence then some h else some b)
    none

/-- The candidate of the trip-report source: the oldest UNREPORTED record (R142). -/
def Trips.candidate (t : Trips) : Option HeldTrip := t.oldestOf t.unreported

/-! ## Bodies (section 13.3) -/

/-- ZONE CHANGE. -/
def zoneChangeBody (s : State) : List Byte := be 1 s.zone.zone ++ [s.address.attributes]

/-- BID, for a bid slot. -/
def bidBody (s : State) (offer slot : Nat) : List Byte :=
  be 2 offer ++ be 2 s.zone.zone ++ [s.address.attributes] ++ be 1 slot

/-- AWARD REFUSAL. -/
def awardRefusalBody (offer job : Nat) (reason : Reason) : List Byte :=
  be 2 offer ++ be 2 job ++ be 1 reason.code

/-- JOB STATUS (R105): the seconds since placement are whole, and saturate at 16,777,215. -/
def jobStatusBody (s : State) (j : Job) (status : JobReport) : List Byte :=
  be 2 j.number ++ be 2 (j.offer.getD 0) ++ be 1 status.code
    ++ be 3 (min 16777215 ((s.now - j.placed) / 1000))

/-- The cell of a DRIVER MESSAGE: row and column, 0xFF each while absent (R166). -/
def cellBytes : Option Cell → List Byte
  | some c => be 1 c.row ++ be 1 c.col
  | none => [0xFF, 0xFF]

/-- DRIVER MESSAGE: number and phrase, then the context block (R166). -/
def driverMessageBody (s : State) (number phrase : Nat) : List Byte :=
  be 2 number ++ be 1 phrase
    ++ be 2 ((s.trips.current.map (fun r => r.number)).getD 0)
    ++ be 2 ((s.trips.current.map (fun r => r.driver)).getD 0)
    ++ (match s.wallStamp with
        | some w => stampBytes w
        | none => [0xFF, 0xFF, 0xFF, 0xFF, 0xFF])
    ++ be 1 s.meter.mode.code ++ be 1 s.zone.zone ++ cellBytes s.zone.cell ++ [flagByte s.zone.stale]
    ++ be 2 ((s.jobs.active.map (fun j => j.number)).getD 0)
    ++ be 3 s.chargedSoFar ++ be 4 s.trips.odometer ++ be 4 s.trips.sequence

/-- BEACON (R181); an absent cell and an absent job are sent as 0. -/
def beaconBody (s : State) : List Byte :=
  be 2 s.emu.episode ++ be 2 s.emu.beacons
    ++ be 1 (beaconFlags s.emu.covert (s.emu.state == .acknowledged) s.zone.cell.isSome s.zone.stale
        s.jobs.active.isSome)
    ++ be 2 s.emu.presses ++ be 2 s.emu.cancels
    ++ be 1 ((s.zone.cell.map (fun c => c.row)).getD 0)
    ++ be 1 ((s.zone.cell.map (fun c => c.col)).getD 0)
    ++ be 1 s.zone.zone ++ be 1 s.meter.mode.code ++ be 3 s.chargedSoFar
    ++ be 2 ((s.jobs.active.map (fun j => j.number)).getD 0)
    ++ be 1 (s.link.lockedSite.getD 0)

/-- TRIP REPORT (R142): an absent field is sent as 0 with its presence mark clear. -/
def tripReportBody (r : TripRecord) : List Byte :=
  be 4 r.sequence ++ be 2 (r.job.getD 0) ++ be 2 r.shift ++ be 1 r.presence
    ++ stampBytes (r.start.getD { day := 0, second := 0 })
    ++ be 4 r.seconds ++ be 4 r.metres ++ be 4 r.drops ++ be 1 r.firstTariff ++ be 1 r.lastTariff
    ++ be 3 r.fare ++ be 3 r.extras ++ be 3 r.surcharge ++ be 3 (r.price.getD 0) ++ be 3 r.charged
    ++ be 1 r.form.code ++ be 4 (r.account.getD 0) ++ be 1 r.flags ++ be 11 0

/-- SHIFT REPORT (R148) with the lifetime odometer. -/
def shiftReportBody (r : ShiftRecord) (odometer : Nat) : List Byte :=
  be 2 r.number ++ be 2 r.driver ++ be 1 r.presence
    ++ stampBytes (r.opened.getD { day := 0, second := 0 })
    ++ stampBytes (r.closed.getD { day := 0, second := 0 })
    ++ be 2 r.trips ++ be 2 r.fixedTrips ++ be 2 r.interrupted
    ++ be 4 r.hiredMetres ++ be 4 r.hiredSeconds ++ be 4 r.vacantMetres
    ++ be 4 r.fareSum ++ be 4 r.extrasSum ++ be 4 r.surchargeSum ++ be 4 r.chargedSum
    ++ be 4 r.cashSum ++ be 4 r.cardSum ++ be 4 r.accountSum ++ be 4 r.unsettledSum
    ++ be 2 r.faults ++ be 4 r.clampedMetres
    ++ be 4 (r.firstTrip.getD 0) ++ be 4 (r.lastTrip.getD 0) ++ be 2 r.unreportedLost
    ++ be 4 odometer

/-- TOTALS REPORT (R149). -/
def totalsReportBody (selector : Nat) (r : ShiftRecord) (odometer : Nat) : List Byte :=
  be 1 selector ++ shiftReportBody r odometer

/-- LOAD RESULT (R193). -/
def loadResultBody (kind version : Nat) (outcome : LoadOutcome) : List Byte :=
  be 1 kind ++ be 2 version ++ be 1 outcome.code ++ be 2 (outcome.badOffset.getD 0)

/-- STATUS REPLY, RECALL MISS (R144). -/
def recallMissBody (sequence : Nat) : List Byte := be 1 4 ++ be 4 sequence

/-- STATUS REPLY, NO SHIFT (R149). -/
def noShiftBody (selector : Nat) : List Byte := be 1 5 ++ be 1 selector

/-- STATUS REPLY, IDENTITY (R198). -/
def identityBody (s : State) : List Byte :=
  be 1 0 ++ be 1 Config.partCode ++ be 1 Config.revisionCode ++ be 2 s.address.fleet
    ++ be 2 s.address.cab

/-- STATUS REPLY, VERSIONS (R198). -/
def versionsBody (s : State) : List Byte :=
  be 1 1 ++ optional 2 (s.dcu.address.map (fun v => v.version))
    ++ optional 2 (s.dcu.zoneMap.map (fun v => v.version))
    ++ optional 2 (s.dcu.channels.map (fun v => v.version))
    ++ optional 2 (s.dcu.phrases.map (fun v => v.version))
    ++ optional 2 (s.dcu.operating.map (fun v => v.version))
    ++ optional 2 (s.meter.calibration.map (fun c => c.version))
    ++ optional 2 (s.meter.active.map (fun b => b.version))
    ++ optional 2 (s.meter.pendingBank.map (fun b => b.version))
    ++ [flagByte s.meter.ready]

/-- The sixteen counters in the order of R198's table. -/
def State.counters (s : State) : List Nat :=
  let c := s.air.counters
  [c.crcErrors, c.lengthErrors, c.foreignFleet, c.uplinkHeard, c.passedBy, c.unknownKind,
   c.barredDiscards, s.link.siteMismatches, s.link.huntPasses, s.uls.drops, s.uls.displaced,
   s.uls.bidsLost, s.offers.passed, s.offers.displaced, s.msgs.lost, s.dcu.loadDiscarded]

/-- STATUS REPLY, COUNTERS (R198). -/
def countersBody (s : State) : List Byte := be 1 2 ++ (s.counters.map (be 2)).flatten

/-- STATUS REPLY, SNAPSHOT (R198, R184, R107). -/
def snapshotBody (s : State) : List Byte :=
  be 1 3 ++ be 1 s.meter.mode.code ++ be 1 s.link.mode.code
    ++ be 1 (snapshotFlags s.emu.state s.emu.covert s.dcu.barred)
    ++ be 2 s.emu.episode ++ be 1 s.zone.zone
    ++ be 2 ((s.jobs.active.map (fun j => j.number)).getD 0)
    ++ be 1 (snapshotJobs s.jobs.active s.jobs.queued.length)

end Sys2Proof.Machine
end

