-- ==== Sys2Proof/Machine/Notices.lean ====
section
/-!
DEFINITION. The notices of each block: cause and summary (section 12.4), every summary with the values
after the event, its fields in the order the raising rule names them (R209, log entries 11 to 13).
-/

namespace Sys2Proof.Machine

/-- OFFER (R88): number, kind, the entry's state after the event or none, cause. -/
def State.offerNotice (s : State) (cause : OfferCause) (o : OfferEntry) (after : Option OfferState) :
    State :=
  s.raise .offer cause.code
    (be 2 o.number ++ be 1 o.kind.code ++ optional 1 (after.map OfferState.code) ++ be 1 cause.code)

/-- The place of a job, by its place in R92. -/
def placeCode (active : Bool) : Nat := if active then 0 else 1

/-- JOB (R106): number, kind, place and state after the event or none, cause. -/
def State.jobNotice (s : State) (cause : JobCause) (j : Job) (place : Option Bool) : State :=
  s.raise .job cause.code
    (be 2 j.number ++ be 1 j.kind.code ++ optional 1 (place.map placeCode)
      ++ optional 1 (place.map (fun _ => j.state.code)) ++ be 1 cause.code)

/-- METER (R132): meter state, tariff in force, drop count, charged amount. -/
def State.meterNotice (s : State) (cause : MeterCause) (p : Trip) : State :=
  s.raise .meter cause.code
    (be 1 s.meter.mode.code ++ be 1 p.tariff ++ be 4 p.drops ++ be 3 p.charged)

/-- Messages in state UNREAD (R167). -/
def Messages.unread (m : Messages) : Nat := m.store.countP (fun x => x.state == .unread)

/-- MESSAGE (R167): number, class, cause, UNREAD messages held after the event. -/
def State.messageNotice (s : State) (cause : MsgCause) (x : Message) : State :=
  s.raise .message cause.code
    (be 2 x.number ++ be 1 x.cls.code ++ be 1 cause.code ++ be 1 s.msgs.unread)

/-- EMERGENCY (R183): a given state, then the episode number and the beacon count held. -/
def State.emergencyNotice (s : State) (cause : EmergencyCause) (shown : EmergencyState)
    (episode beacons : Nat) : State :=
  s.raise .emergency cause.code (be 1 shown.code ++ be 2 episode ++ be 2 beacons)

/-- The entry of the channel list the link stands on; none in NOCHAN (R29). -/
def State.currentChannel (s : State) : Option Channel :=
  if s.link.mode = .nochan then none else s.channels[s.link.entry]?

/-- The current entry's index, with the channel number and role of a channel list entry given for it, each
absent in NOCHAN, and the locked site while LOCKED (R29). -/
def State.linkSummary (s : State) (c : Option Channel) : List Byte :=
  be 1 s.link.mode.code
    ++ optional 1 (c.map (fun _ => s.link.entry))
    ++ optional 2 (c.map (fun c => c.number))
    ++ optional 1 (c.map (fun c => c.role.code))
    ++ optional 1 (if s.link.mode = .locked then s.link.lockedSite else none)

/-- LINK (R29), with the channel list entry it shows. -/
def State.linkNoticeOf (s : State) (cause : LinkCause) (c : Option Channel) : State :=
  s.raise .link cause.code (s.linkSummary c)

/-- LINK (R29), with the current entry of the list in force. -/
def State.linkNotice (s : State) (cause : LinkCause) : State := s.linkNoticeOf cause s.currentChannel

/-- TABLE (R192): kind, version, and whether the set is pending. -/
def State.tableNotice (s : State) (kind : TableKind) (version : Nat) : State :=
  s.raise .table 0 (be 1 kind.code ++ be 2 version ++ [flagByte (kind == .tariffSet)])

/-- BAR (R194): cause 0 BARRED, 1 REINSTATED. -/
def State.barNotice (s : State) (cause : Nat) : State := s.raise .bar cause []

/-- RESTART (R195). -/
def State.restartNotice (s : State) : State := s.raise .restart 0 []

/-- CLOCK with cause SET (R197): the new time. -/
def State.clockSetNotice (s : State) (c : WallClock) : State :=
  s.raise .clock 0 (be 2 c.day ++ be 1 c.dayOfWeek ++ be 3 c.second)

/-- CLOCK with cause LOST (R199). -/
def State.clockLostNotice (s : State) : State := s.raise .clock 1 []

end Sys2Proof.Machine
end

