-- ==== Sys2Proof/Machine/Scheduler.lean ====
section
/-!
DEFINITION. The Uplink Scheduler (chapter 3): air time, the bid reservation, the choice, channel
access, joins, removals, transmissions, and the completion of each kind of item.
-/

namespace Sys2Proof.Machine

/-! ## Pins and air time -/

/-- PTT is asserted exactly in ON AIR (R33). -/
def State.ptt (s : State) : Bool :=
  match s.uls.sched with
  | .onAir _ => true
  | _ => false

/-- The air time of a body length, in whole milliseconds rounded upward (R51). -/
def airTime (bitRate bytes : Nat) : Nat :=
  ((48 + 8 * (6 + bytes + 2)) * 1000 + (bitRate - 1)) / bitRate

/-- The air time under the operating record in force (R51, R53). -/
def State.airTime (s : State) (bytes : Nat) : Nat := Machine.airTime s.op.bitRate bytes

/-! ## The bid reservation (R42) -/

/-- The release time of a waiting BID whose release has not been taken (R42, log entry 9). -/
def Entry.toCome (e : Entry) : Option Nat :=
  match e.bid with
  | some b => if e.mark = .waiting ∧ b.held = false then some b.release else none
  | none => none

/-- A transmission that ends at `ending` is over by every protected release time (R42). -/
def Uls.fits (u : Uls) (ending : Nat) : Bool :=
  u.queue.all fun e => absentOr (fun release => ending ≤ release) e.toCome

/-! ## Marks -/

/-- Mark the first entry that satisfies a test. -/
def markFirst (test : Entry → Bool) (mark : EntryMark) : List Entry → List Entry
  | [] => []
  | e :: rest =>
    if test e then { e with mark := mark } :: rest else e :: markFirst test mark rest

/-- Mark the entry at a place of the queue. -/
def markAt (mark : EntryMark) : List Entry → Nat → List Entry
  | [], _ => []
  | e :: rest, 0 => { e with mark := mark } :: rest
  | e :: rest, n + 1 => e :: markAt mark rest n

/-- The entry is the candidate of the access in progress. -/
def Entry.isCandidate (e : Entry) : Bool := e.mark == .candidate

/-- The entry is on air. -/
def Entry.isOnAir (e : Entry) : Bool := e.mark == .onAir

/-! ## The choice (R40, R41) -/

/-- What a choice picks: the queue entry at a place, or a standing source. -/
inductive Pick where
  | entry (index : Nat)
  | trip
  | beacon
  deriving DecidableEq, Repr

/-- An item that takes part in a choice (R40). -/
structure Item where
  pick : Pick
  level : Nat
  join : Nat
  air : Nat
  deriving DecidableEq, Repr

/-- The queue entries that take part: no BID, and not on air (R40). -/
def State.queueItems (s : State) : Nat → List Entry → List Item
  | _, [] => []
  | i, e :: rest =>
    if e.kind ≠ .bid ∧ e.mark ≠ .onAir then
      { pick := .entry i, level := e.level, join := e.join, air := s.airTime e.body.length }
        :: State.queueItems s (i + 1) rest
    else State.queueItems s (i + 1) rest

/-- The trip-report source while it is ready (R38). -/
def State.tripItem (s : State) : List Item :=
  match s.trips.candidate with
  | some h =>
    [{ pick := .trip, level := s.op.tripLevel, join := h.closeStamp,
       air := s.airTime Config.tripReportBytes }]
  | none => []

/-- The beacon source while it is ready (R39). -/
def State.beaconItem (s : State) : List Item :=
  match s.emu.beacon with
  | some due =>
    if s.reached due then
      [{ pick := .beacon, level := Config.beaconLevel, join := due,
         air := s.airTime Config.beaconBytes }]
    else []
  | none => []

/-- The items that take part in a choice: queue entries in join order, then the trip-report source,
then the beacon (R40). -/
def State.items (s : State) : List Item :=
  s.queueItems 0 s.uls.queue ++ s.tripItem ++ s.beaconItem

/-- `a` is ranked before `b`, which stands before it in the list: a higher level, or the same level
and an earlier join stamp (R40). -/
def Item.ranksBefore (a b : Item) : Bool := b.level < a.level || (a.level == b.level && a.join < b.join)

/-- The first item in rank order; of equals, the earlier in the list (R40). -/
def firstRanked : List Item → Option Item
  | [] => none
  | a :: rest =>
    match firstRanked rest with
    | none => some a
    | some b => if b.ranksBefore a then some b else some a

/-- An item fits at a choice made now (R42). -/
def State.fitsNow (s : State) (i : Item) : Bool := s.uls.fits (s.now + s.op.clear + i.air)

/-! ## Starting and ending an access or a transmission -/

/-- The silence timer is paused with the time left to its deadline (R25). -/
def SilenceTimer.pause (now : Nat) : SilenceTimer → SilenceTimer
  | .running deadline => .paused (deadline - now)
  | other => other

/-- The silence timer goes on with the time it had left (R25). -/
def SilenceTimer.resume (now : Nat) : SilenceTimer → SilenceTimer
  | .paused left => .running (now + left)
  | other => other

/-- A transmission starts (R50): PTT is asserted and the telegram sent. The open delivery is abandoned
(R2) and the silence timer paused (R25). -/
def State.key (s : State) (item : TxItem) (kind : Nat) (body : List Byte) : State :=
  let h : Header :=
    { fleet := s.address.fleet, addressKind := 0, uplink := true, address := s.address.cab,
      site := s.link.lockedSite.getD 0, kind := kind, length := body.length }
  let tx : Transmission :=
    { item := item, ends := s.now + s.airTime body.length, bytes := telegramBytes h body }
  ((s.setUls { s.uls with sched := .onAir tx }).setAir { s.air with rx := none }).setLink
    { s.link with silence := s.link.silence.pause s.now }

/-- An access ends without a transmission; its candidate, if a queue entry, keeps its place (R47). -/
def State.endAccess (s : State) : State :=
  match s.uls.sched with
  | .clearing _ _ =>
    s.setUls { s.uls with sched := .idle, queue := markFirst Entry.isCandidate .waiting s.uls.queue }
  | .backoff _ _ =>
    s.setUls { s.uls with sched := .idle, queue := markFirst Entry.isCandidate .waiting s.uls.queue }
  | _ => s

/-- The body bytes of an access's candidate; none when there is no such item any more (R38, R39). -/
def State.candBytes (s : State) : Cand → Option Nat
  | .entry => (s.uls.queue.find? Entry.isCandidate).map (fun e => e.body.length)
  | .trip => s.trips.candidate.map (fun _ => Config.tripReportBytes)
  | .beacon => s.emu.beacon.map (fun _ => Config.beaconBytes)

/-- Send the candidate: the entry's body, or the body its owner supplies now (R50). -/
def State.startCand (s : State) : Cand → State
  | .entry =>
    match s.uls.queue.find? Entry.isCandidate with
    | some e =>
      (s.setUls { s.uls with queue := markFirst Entry.isCandidate .onAir s.uls.queue }).key .entry
        e.kind.code e.body
    | none => s.endAccess
  | .trip =>
    match s.trips.candidate with
    | some h => s.key (.trip h.record.sequence) 0xC0 (tripReportBody h.record)
    | none => s.endAccess
  | .beacon => s.key .beacon 0xB0 (beaconBody s)

/-- The end of the backoff: the second reservation test; the transmission starts, or the access ends
without an attempt (R42, R44). -/
def State.finishBackoff (s : State) (cand : Cand) : State :=
  match s.candBytes cand with
  | some bytes => if s.uls.fits (s.now + s.airTime bytes) then s.startCand cand else s.endAccess
  | none => s.endAccess

/-- The next state of the random generator (R45). -/
def nextRng (rng : Nat) : Nat := (rng * 25173 + 13849) % 65536

/-- The value a draw yields, from the state after it (R45). -/
def drawValue (rng : Nat) : Nat := rng / 256

/-- One draw is taken (R45). -/
def State.draw (s : State) : State := s.setUls { s.uls with rng := nextRng s.uls.rng }

/-- The window clamped into the range in force (R53). -/
def OpRecord.clampWindow (o : OpRecord) (window : Nat) : Nat := max o.minWindow (min window o.maxWindow)

/-- Enter BACKOFF: clamp the window, take a draw, and wait the remainder of it in slots; a remainder
of 0 ends the backoff at the same event (R44, R53). -/
def State.enterBackoff (s : State) (cand : Cand) : State :=
  let window := s.op.clampWindow s.uls.window
  let s := (s.setUls { s.uls with window := window }).draw
  let r := drawValue s.uls.rng % window
  let s := s.setUls { s.uls with sched := .backoff cand (s.now + r * s.op.slot) }
  if r = 0 then s.finishBackoff cand else s

/-- CD is low: the clear timer starts, or BACKOFF is entered when the clear time is 0 (R43). -/
def State.beginClear (s : State) (cand : Cand) : State :=
  let s := s.setUls { s.uls with sched := .clearing cand (some (s.now + s.op.clear)) }
  if s.op.clear = 0 then s.enterBackoff cand else s

/-- Enter CLEARING with a candidate (R43). -/
def State.enterClearing (s : State) (cand : Cand) : State :=
  if s.cd then s.setUls { s.uls with sched := .clearing cand none } else s.beginClear cand

/-- Begin the access of what a choice picked. -/
def State.beginAccess (s : State) : Pick → State
  | .entry index =>
    (s.setUls { s.uls with queue := markAt .candidate s.uls.queue index }).enterClearing .entry
  | .trip => s.enterClearing .trip
  | .beacon => s.enterClearing .beacon

/-- The conditions of R41 are tested: when the scheduler is IDLE, the link LOCKED and an item fits, the
first in rank order that fits becomes the candidate of an access. -/
def State.choose (s : State) : State :=
  if s.uls.sched = .idle ∧ s.link.mode = .locked then
    match firstRanked (s.items.filter s.fitsNow) with
    | some i => s.beginAccess i.pick
    | none => s
  else s

/-! ## Leaving the queue (R37, R47) -/

/-- The entries that satisfy a test leave the queue. An access whose candidate leaves ends without an
attempt; a transmission on air runs on. -/
def State.dropEntries (s : State) (test : Entry → Bool) : State :=
  let s' := s.setUls { s.uls with queue := s.uls.queue.filter (fun e => !test e) }
  if s.uls.queue.any (fun e => test e && e.isCandidate) then s'.endAccess else s'

/-- An owner removes its entries; when any left, the conditions of a choice are tested (R37, R41). -/
def State.removeEntries (s : State) (test : Entry → Bool) : State :=
  if s.uls.queue.any test then (s.dropEntries test).choose else s

/-- The entry is a BID for an offer number. -/
def Entry.bidFor (number : Nat) (e : Entry) : Bool :=
  match e.bid with
  | some b => b.offer == number
  | none => false

/-- The entry is a BID. -/
def Entry.isBid (e : Entry) : Bool := e.kind == .bid

/-- The Offer Controller removes the BID of one offer (R37). -/
def State.removeBid (s : State) (number : Nat) : State := s.removeEntries (Entry.bidFor number)

/-- The Offer Controller removes every BID (R37). -/
def State.removeBids (s : State) : State := s.removeEntries Entry.isBid

/-! ## Joining the queue (R34 to R36) -/

/-- A new entry (R34). -/
def State.newEntry (s : State) (kind : UplinkKind) (body : List Byte) (bid : Option BidTimes) : Entry :=
  { kind := kind, level := (s.op.params kind).level, attempts := 0, join := s.now, body := body,
    bid := bid, mark := .waiting }

/-- The lowest level held by an entry not on air (R36). -/
def lowestLevel : List Entry → Option Nat
  | [] => none
  | e :: rest =>
    if e.isOnAir then lowestLevel rest
    else
      match lowestLevel rest with
      | none => some e.level
      | some l => some (min e.level l)

/-- The place of the latest entry of a level that is not on air (R36). -/
def latestOfLevel (level : Nat) : Nat → List Entry → Option Nat
  | _, [] => none
  | i, e :: rest =>
    match latestOfLevel level (i + 1) rest with
    | some j => some j
    | none => if e.level = level ∧ e.isOnAir = false then some i else none

/-- The entry a new entry of a level would displace from a full queue: the latest of the lowest level,
if that level is lower (R36). -/
def Uls.displaceable (u : Uls) (level : Nat) : Option Nat :=
  match lowestLevel u.queue with
  | some lowest => if lowest < level then latestOfLevel lowest 0 u.queue else none
  | none => none

/-- The displaced counter rises by one (R36). -/
def State.countDisplaced (s : State) : State :=
  s.setUls { s.uls with displaced := countUp s.uls.displaced }

/-- An entry is put at the end of the queue. -/
def State.append (s : State) (e : Entry) : State := s.setUls { s.uls with queue := s.uls.queue ++ [e] }

/-- The entry at a place of the queue leaves it; if it is the candidate its access ends (R36, R47). -/
def State.displaceAt (s : State) (index : Nat) : State :=
  let s' :=
    if (s.uls.queue[index]?.map Entry.isCandidate).getD false then s.endAccess else s
  s'.setUls { s'.uls with queue := s'.uls.queue.eraseIdx index }

/-- A join and whether the entry joined (or took the place of a body, R35). -/
structure Joined where
  state : State
  joined : Bool

/-- A new entry joins, by displacement if the queue is full, or is refused (R36). A choice may follow
the whole join (R41, log entry 10). -/
def State.joinNew (s : State) (e : Entry) : Joined :=
  if s.uls.queue.length < Config.queueMax then { state := (s.append e).choose, joined := true }
  else
    match s.uls.displaceable e.level with
    | some index => { state := ((s.displaceAt index).countDisplaced.append e).choose, joined := true }
    | none => { state := s.countDisplaced, joined := false }

/-- The kinds of which the queue holds one waiting entry at most (R35). -/
def UplinkKind.single (k : UplinkKind) : Bool := k == .zoneChange || k == .totalsReport

/-- The entry has a kind and is not on air. -/
def Entry.waits (kind : UplinkKind) (e : Entry) : Bool := e.kind == kind && !e.isOnAir

/-- The entry has a kind and is on air. -/
def Entry.flies (kind : UplinkKind) (e : Entry) : Bool := e.kind == kind && e.isOnAir

/-- Put a body in the first waiting entry of a kind (R35). -/
def replaceBody (kind : UplinkKind) (body : List Byte) : List Entry → List Entry
  | [] => []
  | e :: rest =>
    if e.waits kind then { e with body := body } :: rest else e :: replaceBody kind body rest

/-- An owner hands over an entry (R34), with the replacement of R35 before any test of fullness. -/
def State.join (s : State) (kind : UplinkKind) (body : List Byte) (bid : Option BidTimes) : Joined :=
  if kind.single then
    if s.uls.queue.any (Entry.waits kind) then
      { state := (s.setUls { s.uls with queue := replaceBody kind body s.uls.queue }).choose
        joined := true }
    else
      let s' := s.setUls { s.uls with queue := s.uls.queue.filter (fun e => !e.flies kind) }
      s'.joinNew (s'.newEntry kind body bid)
  else s.joinNew (s.newEntry kind body bid)

/-- An owner queues an uplink and takes no account of the outcome (R36: a drop has no further
effect). -/
def State.queue (s : State) (kind : UplinkKind) (body : List Byte) : State := (s.join kind body none).state

/-! ## Completion (R50) -/

/-- The three bytes of a tune word (section 13.1). Bits 7 to 2 of the second byte, which section 13.1 does not
give, are 0: DESIGN CHOICE (log entry 31). -/
def tuneBytes (channel : Nat) : List Byte := 0xA5 :: be 2 (channel % 1024)

/-- The tune word of the current entry is sent and the settle timer starts (R20). -/
def State.sendTune (s : State) : State :=
  s.setLink
    { s.link with
      tunePending := false
      tuneWord := some (tuneBytes ((s.channels[s.link.entry]?.map (fun c => c.number)).getD 0))
      settle := some (s.now + s.op.settle) }

/-- PTT is released: the silence timer goes on (R25) and a pending tune word is sent (R20). -/
def State.releasePtt (s : State) : State :=
  let s := s.setLink { s.link with silence := s.link.silence.resume s.now }
  if s.link.tunePending then s.sendTune else s

/-- The entry of an offer number. -/
def Offers.find (o : Offers) (number : Nat) : Option OfferEntry :=
  o.table.find? (fun e => e.number == number)

/-- Put an entry in the place of the held one of its number. -/
def Offers.put (o : Offers) (e : OfferEntry) : Offers :=
  { o with table := o.table.map (fun x => if x.number == e.number then e else x) }

/-- A BID's transmission has completed: an ACCEPTED entry becomes BID-SENT with a notice (R80). -/
def State.bidCompleted (s : State) (number : Nat) : State :=
  match s.offers.find number with
  | some e =>
    if e.state = .accepted then
      (s.setOffers (s.offers.put { e with state := .bidSent })).offerNotice .bidSent e (some .bidSent)
    else s
  | none => s

/-- The index of a number's slot (R141). -/
def slotOf (sequence : Nat) : Nat := sequence % 16

/-- The record of a number, looked up in its slot (R143, R144). -/
def Trips.find (t : Trips) (sequence : Nat) : Option HeldTrip :=
  match t.log[slotOf sequence]? with
  | some (some h) => if h.record.sequence = sequence then some h else none
  | _ => none

/-- The record of a number, if its slot still holds it, becomes REPORTED or UNREPORTED (R143, R144). -/
def Trips.markReported (t : Trips) (sequence : Nat) (reported : Bool) : Trips :=
  match t.find sequence with
  | some h => { t with log := t.log.set (slotOf sequence) (some { h with reported := reported }) }
  | none => t

/-- A beacon's transmission has completed (R180). -/
def State.beaconCompleted (s : State) : State :=
  if s.emu.inCall then
    let interval := if s.emu.state = .active then s.op.beaconInterval else s.op.trackingInterval
    let s := s.setEmu
      { s.emu with
        beacons := countUp s.emu.beacons
        beacon := some (s.now + 1000 * interval) }
    if s.emu.covert then s
    else s.emergencyNotice .beaconSent s.emu.state s.emu.episode s.emu.beacons
  else s

/-- The owner of a queue entry is told of its completion; only the Offer Controller acts on it (R49,
R80). -/
def State.entryCompleted (s : State) (e : Entry) : State :=
  match e.bid with
  | some b => s.bidCompleted b.offer
  | none => s

/-- The owner of the item is told of the completion. An entry that left the queue while on air is not
reported (R37, R50). -/
def State.itemCompleted (s : State) : TxItem → State
  | .entry =>
    match s.uls.queue.find? Entry.isOnAir with
    | some e =>
      (s.setUls { s.uls with queue := s.uls.queue.filter (fun x => !x.isOnAir) }).entryCompleted e
    | none => s
  | .trip sequence => s.setTrips (s.trips.markReported sequence true)
  | .beacon => s.beaconCompleted

/-- A transmission completes (R50), without the choice that follows. -/
def State.finishTx (s : State) (tx : Transmission) : State :=
  let s := s.releasePtt
  let s := s.setUls { s.uls with window := s.op.minWindow, sched := .idle }
  s.itemCompleted tx.item

/-- A transmission completes, and the conditions of a choice are tested (R41, R50). -/
def State.completeTx (s : State) (tx : Transmission) : State := (s.finishTx tx).choose

/-! ## Busy channel (R46) -/

/-- Add one to the attempt count of the candidate. -/
def countAttempt (queue : List Entry) : List Entry :=
  queue.map fun e => if e.isCandidate then { e with attempts := e.attempts + 1 } else e

/-- The candidate has had more busy channels than its kind allows (R46). -/
def OpRecord.exhausted (o : OpRecord) (e : Entry) : Bool :=
  e.isCandidate && (o.params e.kind).limit != 0 && (o.params e.kind).limit < e.attempts

/-- The effects of a busy channel (R46), up to the new choice. The window doubles from where it stands and meets
the maximum alone; the minimum in force is applied at the next draw (`State.enterBackoff`), though R53 lists both
windows as read at each doubling: DESIGN CHOICE (log entry 33). -/
def State.busyChannel (s : State) : State :=
  let s := s.setUls
    { s.uls with
      queue := countAttempt s.uls.queue
      window := min (2 * s.uls.window) s.op.maxWindow }
  let s :=
    if s.uls.queue.any s.op.exhausted then
      (s.setUls { s.uls with drops := countUp s.uls.drops }).dropEntries s.op.exhausted
    else s
  s.endAccess.choose

/-! ## Bids (R48, R49) -/

/-- The release time of a waiting BID whose release is due now and not yet taken. -/
def Entry.dueRelease (now : Nat) (e : Entry) : Option Nat :=
  match e.toCome with
  | some release => if release ≤ now then some release else none
  | none => none

/-- The earliest due release time in the queue. -/
def earliestRelease (now : Nat) : List Entry → Option Nat
  | [] => none
  | e :: rest =>
    match e.dueRelease now, earliestRelease now rest with
    | none, other => other
    | some r, none => some r
    | some r, some r' => some (min r r')

/-- The entry is the BID whose release is taken next: of the due ones the earliest release time, and of
equal ones the first in join order (R48). -/
def Entry.releases (release : Nat) (e : Entry) : Bool := e.toCome == some release

/-- Set the held mark of the first BID with a release time (R48: it stays queued, unsent). -/
def holdFirst (release : Nat) : List Entry → List Entry
  | [] => []
  | e :: rest =>
    if e.releases release then { e with bid := e.bid.map (fun b => { b with held := true }) } :: rest
    else e :: holdFirst release rest

/-- The first entry that satisfies a test leaves the queue; bids lost rises by one (R48, R49). -/
def State.loseBid (s : State) (test : Entry → Bool) : State :=
  s.setUls { s.uls with queue := s.uls.queue.eraseP test, bidsLost := countUp s.uls.bidsLost }

/-- The conditions under which a BID starts (R48), once any completion due has been made. The test reads the
BID's own deadline, and no slot length, though R53 names one: DEDUCED (log entry 32). -/
def State.bidMayStart (s : State) (e : Entry) (b : BidTimes) : Bool :=
  !s.ptt && !s.cd && b.release + s.airTime e.body.length ≤ b.deadline

/-- A BID is taken at its release time (R48). While the link is LOCKED any access in progress ends there,
whether the BID starts or is lost (R47). -/
def State.releaseBid (s : State) (release : Nat) : State :=
  match s.uls.queue.find? (Entry.releases release) with
  | some e =>
    match e.bid with
    | some b =>
      if s.link.mode = .locked then
        if s.bidMayStart e b then
          (s.setUls
            { s.uls with
              queue := markFirst (Entry.releases release) .onAir s.uls.queue }).endAccess.key .entry
            e.kind.code e.body
        else (s.loseBid (Entry.releases release)).endAccess
      else s.setUls { s.uls with queue := holdFirst release s.uls.queue }
    | none => s
  | none => s

/-- A transmission whose air time has run by now is completed first (R48). -/
def State.settleTx (s : State) : State :=
  match s.uls.sched with
  | .onAir tx => if s.reached tx.ends then s.completeTx tx else s
  | _ => s

/-- A waiting BID whose deadline is reached (R49). -/
def Entry.pastDeadline (now : Nat) (e : Entry) : Bool :=
  match e.bid with
  | some b => b.deadline ≤ now && !e.isOnAir
  | none => false

/-- The next queued BID whose release time is reached is taken, a completion due now being made first,
and the conditions of a choice are tested (R41, R48). -/
def State.bidRelease (s : State) : State :=
  match earliestRelease s.now s.uls.queue with
  | some release => (s.settleTx.releaseBid release).choose
  | none => s

/-- A queued BID whose deadline is reached without a start is lost (R49). -/
def State.bidDeadline (s : State) : State :=
  if s.uls.queue.any (Entry.pastDeadline s.now) then (s.loseBid (Entry.pastDeadline s.now)).choose else s

/-! ## CD and the access timers (R43, R44, R46) -/

/-- CD falls: in CLEARING the clear timer starts, or BACKOFF is entered (R43). -/
def State.cdFall (s : State) : State :=
  let s := s.setCd false
  match s.uls.sched with
  | .clearing cand none => (s.beginClear cand).choose
  | _ => s

/-- CD rises: while the clear timer runs, or in BACKOFF, it is a busy channel (R43, R44, R46). -/
def State.cdRise (s : State) : State :=
  let s := s.setCd true
  match s.uls.sched with
  | .clearing _ (some _) => s.busyChannel
  | .backoff _ _ => s.busyChannel
  | _ => s

/-- The expiry of the clear timer with CD low (R43). -/
def State.clearExpiry (s : State) : State :=
  match s.uls.sched with
  | .clearing cand (some deadline) =>
    if s.reached deadline && !s.cd then (s.enterBackoff cand).choose else s
  | _ => s

/-- The end of the backoff (R44). -/
def State.backoffEnd (s : State) : State :=
  match s.uls.sched with
  | .backoff cand ends => if s.reached ends then (s.finishBackoff cand).choose else s
  | _ => s

end Sys2Proof.Machine
end

