-- ==== Sys2Proof/Machine/ChannelAccess.lean ====
section
/-!
DEFINITION. The meanings of the channel access events (chapter 3). Before its deadline an expiry
has no effect but the timer's reading (log entry 3).
-/

namespace Sys2Proof.Machine

/-- CD_FALL (R43). -/
def execCdFall (t : Stamp) (s : State) : Host.Outcome State Fault Refusal :=
  .next (s.event t State.cdFall)

/-- CD_RISE (R46). -/
def execCdRise (t : Stamp) (s : State) : Host.Outcome State Fault Refusal :=
  .next (s.event t State.cdRise)

/-- CLEAR_TIMER_EXPIRY (R43, R44). -/
def execClearTimerExpiry (t : Stamp) (s : State) : Host.Outcome State Fault Refusal :=
  .next (s.event t State.clearExpiry)

/-- BACKOFF_END (R44). -/
def execBackoffEnd (t : Stamp) (s : State) : Host.Outcome State Fault Refusal :=
  .next (s.event t State.backoffEnd)

/-- TRANSMISSION_COMPLETE (R50): a transmission whose air time has run is completed. -/
def execTransmissionComplete (t : Stamp) (s : State) : Host.Outcome State Fault Refusal :=
  .next (s.event t State.settleTx)

/-- BID_RELEASE (R48): a completion due now is made first. -/
def execBidRelease (t : Stamp) (s : State) : Host.Outcome State Fault Refusal :=
  .next (s.event t State.bidRelease)

/-- BID_DEADLINE (R49). -/
def execBidDeadline (t : Stamp) (s : State) : Host.Outcome State Fault Refusal :=
  .next (s.event t State.bidDeadline)

end Sys2Proof.Machine
end

