-- ==== Sys2Proof/Machine/Expander.lean ====
section
/-!
DEFINITION. The text expander (R154 to R157) and the character sets (section 13.5).
-/

namespace Sys2Proof.Machine

/-- The characters of codes 37 to 59 in both sets (section 13.5). -/
def punctuation : List Nat :=
  [0x2E, 0x2C, 0x2D, 0x2F, 0x3A, 0x27, 0x28, 0x29, 0x2B, 0x26, 0x23, 0x40, 0x21, 0x25, 0x3D, 0x2A,
   0x3B, 0x22, 0x24, 0x3C, 0x3E, 0x5F, 0x3F]

/-- The display character of a code 0 to 59 in set A, or in set B (section 13.5). -/
def charOf (setB : Bool) (code : Nat) : BitVec 7 :=
  if code ≤ 25 then BitVec.ofNat 7 ((if setB then 0x61 else 0x41) + code)
  else if code ≤ 35 then BitVec.ofNat 7 (0x30 + (code - 26))
  else if code = 36 then 0x20
  else BitVec.ofNat 7 ((punctuation.drop (code - 37)).headD 0x3F)

/-- A display character of set A or set B (R187). -/
def isDisplayChar (n : Nat) : Bool :=
  (0x41 ≤ n && n ≤ 0x5A) || (0x61 ≤ n && n ≤ 0x7A) || (0x30 ≤ n && n ≤ 0x39) || n == 0x20
    || punctuation.contains n

/-- The substitution mark (section 13.5). -/
def substitution : BitVec 7 := 0x3F

/-- The new line position (section 13.4). -/
def newLine : BitVec 7 := 0x0A

/-- The characters a PHRASE adds (R156). -/
def phrasePositions (book : Option Memory) (number : Nat) : List (BitVec 7) :=
  match book with
  | none => [substitution]
  | some b =>
    if 128 ≤ number then [substitution]
    else if (phraseChars b number).isEmpty then [substitution]
    else phraseChars b number

/-- Add characters one at a time, testing the limit before each (R157). The flag says that the limit
stopped the expansion. -/
def addPositions (limit : Nat) (emphasis : Bool) :
    List (BitVec 7) → List DisplayPos → List DisplayPos × Bool
  | [], made => (made, false)
  | c :: rest, made =>
    if limit ≤ made.length then (made, true)
    else addPositions limit emphasis rest (made ++ [{ char := c, emphasis := emphasis }])

/-- Expand codes (R154 to R157) with the selected set, the emphasis flag and the positions made so
far. -/
def expandFrom (book : Option Memory) (limit : Nat) :
    List Nat → Bool → Bool → List DisplayPos → Text
  | [], _, _, made => { positions := made, truncated := false }
  | code :: rest, setB, emphasis, made =>
    if code = 60 then
      match rest with
      | [] => { positions := made, truncated := false }
      | control :: rest' =>
        if control = 0 then
          match addPositions limit emphasis [newLine] made with
          | (made', true) => { positions := made', truncated := true }
          | (made', false) => expandFrom book limit rest' setB emphasis made'
        else if control = 1 then expandFrom book limit rest' false emphasis made
        else if control = 2 then expandFrom book limit rest' true emphasis made
        else if control = 3 then expandFrom book limit rest' setB true made
        else if control = 4 then expandFrom book limit rest' setB false made
        else expandFrom book limit rest' setB emphasis made
    else if code = 61 then
      match rest with
      | hi :: lo :: rest' =>
        match addPositions limit emphasis (phrasePositions book (hi * 64 + lo)) made with
        | (made', true) => { positions := made', truncated := true }
        | (made', false) => expandFrom book limit rest' setB emphasis made'
      | _ => { positions := made, truncated := false }
    else if code = 63 then { positions := made, truncated := false }
    else
      match addPositions limit emphasis [if code = 62 then substitution else charOf setB code] made with
      | (made', true) => { positions := made', truncated := true }
      | (made', false) => expandFrom book limit rest setB emphasis made'
  termination_by structural codes => codes

/-- Expand the first `taken` codes of a text field in set A with emphasis clear (R154, R157). -/
def State.expand (s : State) (taken limit : Nat) (codes : List Nat) : Text :=
  expandFrom s.book limit (codes.take taken) false false []

end Sys2Proof.Machine
end

