-- ==== Sys2Proof/Machine/OfferOps.lean ====
section
/-!
DEFINITION. The Offer Controller's operations on the offer table (chapter 5).
-/

namespace Sys2Proof.Machine

/-- The entry of an offer number leaves the table; those behind it close up (R68). -/
def Offers.remove (o : Offers) (number : Nat) : Offers :=
  { o with table := o.table.filter (fun e => e.number != number) }

/-- An entry leaves the table with a notice (R88). -/
def State.dropOffer (s : State) (e : OfferEntry) (cause : OfferCause) : State :=
  (s.setOffers (s.offers.remove e.number)).offerNotice cause e none

/-- An emptying event (R86): every entry and every BID is removed, with no notice. -/
def State.emptyOffers (s : State) : State :=
  (s.setOffers { s.offers with table := [] }).removeBids

/-- STREET entries in a state. -/
def Offers.street (o : Offers) (state : OfferState) : List OfferEntry :=
  o.table.filter (fun e => e.kind == .street && e.state == state)

/-- At a hire start an OFFERED STREET entry is removed (R85). -/
def State.pruneOffered (s : State) (e : OfferEntry) : State := s.dropOffer e .hire

/-- At a hire start an ACCEPTED STREET entry is removed together with its BID (R85). -/
def State.pruneAccepted (s : State) (e : OfferEntry) : State :=
  (s.removeBid e.number).dropOffer e .hire

/-- The Offer Controller at a hire start (R85). Of several removed entries those OFFERED go first, then those
ACCEPTED, each in arrival order: DESIGN CHOICE, the spec does not order them (log entry 29). -/
def State.pruneOffers (s : State) : State :=
  let s := (s.offers.street .offered).foldl State.pruneOffered s
  (s.offers.street .accepted).foldl State.pruneAccepted s

/-- Offers passed rises by one (R69, R71). -/
def State.passOffer (s : State) : State :=
  s.setOffers { s.offers with passed := countUp s.offers.passed }

/-- The pickup zone is reached: the current zone, or with reach 1 one of its neighbours (R71
condition 6). -/
def State.reaches (s : State) (zone : Nat) (reach : Bool) : Bool :=
  zone == s.zone.zone || (reach && (s.neighbours s.zone.zone).contains zone)

/-- The conditions of R71. -/
def State.eligible (s : State) (o : OfferBody) (cls : MatchClass) : Bool :=
  !s.dcu.barred && s.meter.mode != .offShift && !s.emu.overtCall
    && hasAttributes o.required s.address.attributes
    && s.zone.zone != 0 && s.reaches o.zone o.reach
    && (cls != .neighbour || o.reach)
    && (o.kind != .street || (s.meter.mode == .vacant && s.jobs.active.isNone))

/-- The entry an eligible offer becomes, with its marks (R72). -/
def State.offerEntry (s : State) (o : OfferBody) : OfferEntry :=
  let decision := s.now + 1000 * o.decision
  { number := o.number, kind := o.kind, zone := o.zone, reach := o.reach, required := o.required
    price := o.price, pickupTime := o.pickupTime
    summary := s.expand 40 80 o.codes
    decision := decision, slot := s.op.slot, window := o.window
    lapse := decision + o.window * s.op.slot + 1000 * s.op.awardWait
    state := .offered }

/-- An entry joins at the end of the table with a notice (R72). -/
def State.addOffer (s : State) (e : OfferEntry) : State :=
  (s.setOffers { s.offers with table := s.offers.table ++ [e] }).offerNotice .new e (some .offered)

/-- The OFFERED entry with the earliest decision deadline, the earliest in arrival order of equals
(R73). -/
def earliestOffered : List OfferEntry → Option OfferEntry
  | [] => none
  | e :: rest =>
    match earliestOffered rest with
    | none => if e.state = .offered then some e else none
    | some r => if e.state = .offered ∧ e.decision ≤ r.decision then some e else some r

/-- Offers displaced rises by one (R73). -/
def State.displaceOffer (s : State) : State :=
  s.setOffers { s.offers with displaced := countUp s.offers.displaced }

/-- An eligible offer is taken into the table, in place of another when it is full (R72, R73). -/
def State.takeEligible (s : State) (o : OfferBody) : State :=
  let e := s.offerEntry o
  if s.offers.table.length < Config.offersMax then s.addOffer e
  else
    match earliestOffered s.offers.table with
    | some old => (s.displaceOffer.dropOffer old .displaced).addOffer e
    | none => s.displaceOffer

/-- An OFFER is taken (R69 to R73). -/
def State.takeOffer (s : State) (o : OfferBody) (cls : MatchClass) : State :=
  if !o.inRange then s.passOffer
  else if (s.offers.find o.number).isSome then s
  else if !s.eligible o cls then s.passOffer
  else s.takeEligible o

/-- A PREBOOK or STREET entry is ACCEPTED or BID-SENT. -/
def OfferEntry.pledged (kind : JobKind) (e : OfferEntry) : Bool := e.kind == kind && e.state != .offered

/-- The tests of R76, in order; none when all pass. -/
def State.acceptRefusal (s : State) (number : Nat) : Option RespCode :=
  if number = 0 then some .argument
  else if s.dcu.barred then some .barred
  else if s.emu.overtCall then some .emergency
  else
    match s.offers.find number with
    | none => some .state
    | some e =>
      if e.state ≠ .offered ∨ s.reached e.decision then some .state
      else
        match e.kind with
        | .street =>
          if s.offers.table.any (OfferEntry.pledged .street) then some .full
          else if s.meter.mode ≠ .vacant ∨ s.jobs.active.isSome then some .state
          else none
        | .prebook =>
          if 2 ≤ s.jobs.queued.length + s.offers.table.countP (OfferEntry.pledged .prebook) then
            some .full
          else none

/-- The BID of an entry for a drawn slot joins the queue (R77). -/
def State.placeBid (s : State) (e : OfferEntry) (slot : Nat) : State :=
  let release := e.decision + slot * e.slot
  (s.join .bid (bidBody s e.number slot)
    (some { offer := e.number, release := release, deadline := release + e.slot, held := false })).state

/-- An ACCEPT that passes the tests: the entry becomes ACCEPTED; outside a covert call one draw gives
the bid slot and a BID is queued (R77, R78). -/
def State.acceptOffer (s : State) (e : OfferEntry) : State :=
  let s := s.setOffers (s.offers.put { e with state := .accepted })
  if s.emu.covertCall then s
  else
    let s := s.draw
    s.placeBid e (drawValue s.uls.rng % e.window)

/-- An entry leaves the table at a deadline of its own (R74, R75). -/
def State.lapseOffer (s : State) (e : OfferEntry) : State := s.dropOffer e .lapsed

/-! ## DECLINE and WITHDRAW -/

/-- An entry leaves the table with its queued BID and no notice (R79). -/
def State.declineOffer (s : State) (number : Nat) : State :=
  let s := s.removeBid number
  s.setOffers (s.offers.remove number)

/-- DECLINE (R79). -/
def State.decline (s : State) (number : Nat) : Answer :=
  if number = 0 then s.refuse .argument
  else if (s.offers.find number).isSome then (s.declineOffer number).doneWith []
  else s.refuse .state

/-- ACCEPT (R76 to R78). -/
def State.accept (s : State) (number : Nat) : Answer :=
  match s.acceptRefusal number, s.offers.find number with
  | some code, _ => s.refuse code
  | none, some e => (s.acceptOffer e).doneWith []
  | none, none => s.refuse .state

/-- A WITHDRAW is taken (R81). -/
def State.takeWithdraw (s : State) (number : Nat) : State :=
  match s.offers.find number with
  | some e => (s.removeBid number).dropOffer e .withdrawn
  | none => s

/-- The decision deadline of an entry (R74); before it, or for an entry that is not OFFERED, nothing
happens. -/
def State.decisionDeadline (s : State) (number : Nat) : State :=
  match s.offers.find number with
  | some e => if e.state = .offered ∧ s.reached e.decision then s.lapseOffer e else s
  | none => s

/-- The lapse time of an entry (R75); before it, or for an entry that is OFFERED, nothing happens. -/
def State.lapseTime (s : State) (number : Nat) : State :=
  match s.offers.find number with
  | some e => if e.state ≠ .offered ∧ s.reached e.lapse then s.lapseOffer e else s
  | none => s

end Sys2Proof.Machine
end

