-- ==== Sys2Proof/Machine/EmergencyOps.lean ====
section
/-!
DEFINITION. The Emergency Unit's operations (chapter 10).
-/

namespace Sys2Proof.Machine

/-! ## Entry into ACTIVE (R174) -/

/-- The unit after steps 1 to 4 of R174. -/
def Emergency.enter (e : Emergency) (covert : Bool) (now : Nat) : Emergency :=
  { state := .active, covert := covert, episode := nextNumber e.episode, beacons := 0, presses := 0
    cancels := 0, grace := none, beacon := some now }

/-- Entry into ACTIVE up to step 4: the beacon source becomes ready and a choice may follow (R41). -/
def State.enterActive (s : State) (covert : Bool) : State :=
  (s.setEmu (s.emu.enter covert s.now)).choose

/-- Overt entry (R174). -/
def State.enterOvert (s : State) : State :=
  let s := (s.enterActive false).emptyOffers
  s.emergencyNotice .active s.emu.state s.emu.episode s.emu.beacons

/-- Covert entry from QUIET: no notice (R174, R183). -/
def State.enterCovert (s : State) : State := (s.enterActive true).removeBids

/-- Covert entry from ARMING: announced as a cancellation, with state QUIET and the numbers held before
the entry (R183). -/
def State.enterCovertArmed (s : State) : State :=
  s.enterCovert.emergencyNotice .cancelled .quiet s.emu.episode s.emu.beacons

/-! ## The driver's inputs (R172, R173, R175, R176) -/

/-- ARMING begins (R172). -/
def State.arm (s : State) : State :=
  let s := s.setEmu { s.emu with state := .arming, grace := some (s.now + 1000 * s.op.grace) }
  s.emergencyNotice .arming s.emu.state s.emu.episode s.emu.beacons

/-- The press count rises by one (R175). -/
def State.countPress (s : State) : State := s.setEmu { s.emu with presses := countUp s.emu.presses }

/-- An EMERG press, or an EMERGENCY request (R172, R173, R175). -/
def State.press (s : State) : State :=
  match s.emu.state with
  | .quiet => if s.op.grace = 0 then s.enterOvert else s.arm
  | .arming => s
  | .active => s.countPress
  | .acknowledged => s.countPress

/-- The grace deadline is reached in ARMING. -/
def State.graceReached (s : State) : Bool := s.emu.state == .arming && s.timerReached s.emu.grace

/-- The expiry of the grace deadline (R173). -/
def State.graceExpiry (s : State) : State := if s.graceReached then s.enterOvert else s

/-- A COVERT press (R173 to R175); a grace deadline reached at the press is taken first. -/
def State.pressCovert (s : State) : State :=
  match s.emu.state with
  | .quiet => s.enterCovert
  | .arming => if s.graceReached then s.enterOvert else s.enterCovertArmed
  | .active => s
  | .acknowledged => s

/-- EMERGENCY request (R172, R173, R175). -/
def State.emergencyRequest (s : State) : Answer := s.press.doneWith []

/-- A CANCEL during a call (R176). -/
def State.cancelInCall (s : State) : Answer :=
  let s := s.setEmu { s.emu with cancels := countUp s.emu.cancels }
  if s.emu.covert then s.doneWith [] else s.refuse .emergency

/-- The cancellation of an arming (R173). -/
def State.cancelArming (s : State) : State :=
  let s := s.setEmu { s.emu with state := .quiet, grace := none }
  s.emergencyNotice .cancelled s.emu.state s.emu.episode s.emu.beacons

/-- CANCEL request (R173, R176); a grace deadline reached at the request is taken first. -/
def State.cancel (s : State) : Answer :=
  match s.emu.state with
  | .quiet => s.doneWith []
  | .arming => if s.graceReached then s.enterOvert.cancelInCall else s.cancelArming.doneWith []
  | .active => s.cancelInCall
  | .acknowledged => s.cancelInCall

/-! ## Telegrams (R177, R178) -/

/-- An episode number matches the call (R171). -/
def Emergency.matches (e : Emergency) (episode : Nat) : Bool := episode == 0 || episode == e.episode

/-- An EMERGENCY ACK is taken (R177). -/
def State.takeAck (s : State) (episode : Nat) : State :=
  if s.emu.matches episode ∧ s.emu.state = .active then
    let s := s.setEmu { s.emu with state := .acknowledged }
    if s.emu.covert then s
    else s.emergencyNotice .acknowledged s.emu.state s.emu.episode s.emu.beacons
  else s

/-- The access in progress is for the beacon. -/
def State.beaconIsCand (s : State) : Bool :=
  match s.uls.sched with
  | .clearing cand _ => cand == .beacon
  | .backoff cand _ => cand == .beacon
  | _ => false

/-- The beacon source stops being ready; an access for it ends, and a choice may follow (R39, R47). -/
def State.dropBeacon (s : State) : State := if s.beaconIsCand then s.endAccess.choose else s

/-- The end of a call (R178). -/
def State.standDown (s : State) : State :=
  let covert := s.emu.covert
  let s := (s.setEmu { s.emu with state := .quiet, beacon := none }).dropBeacon
  let s := if covert then s else s.emergencyNotice .stoodDown s.emu.state s.emu.episode s.emu.beacons
  s.setEmu { s.emu with covert := false }

/-- A STAND DOWN is taken (R178). -/
def State.takeStandDown (s : State) (episode : Nat) : State :=
  if s.emu.matches episode && s.emu.inCall then s.standDown else s

/-! ## The beacon (R179) -/

/-- The due time of the pending beacon is reached: a choice may follow (R39, R41). -/
def State.beaconDue (s : State) : State := if s.timerReached s.emu.beacon then s.choose else s

end Sys2Proof.Machine
end

