-- ==== Sys2Proof/Machine/EmergencyEvents.lean ====
section
/-!
DEFINITION. The meanings of the discrete inputs and of the timers of the Emergency Unit
(chapter 10).
-/

namespace Sys2Proof.Machine

/-- EMERG_PRESS (R172, R173, R175). -/
def execEmergPress (t : Stamp) (s : State) : Host.Outcome State Fault Refusal :=
  .next (s.event t State.press)

/-- COVERT_PRESS (R173 to R175). -/
def execCovertPress (t : Stamp) (s : State) : Host.Outcome State Fault Refusal :=
  .next (s.event t State.pressCovert)

/-- GRACE_EXPIRY (R173). -/
def execGraceExpiry (t : Stamp) (s : State) : Host.Outcome State Fault Refusal :=
  .next (s.event t State.graceExpiry)

/-- BEACON_DUE (R179). -/
def execBeaconDue (t : Stamp) (s : State) : Host.Outcome State Fault Refusal :=
  .next (s.event t State.beaconDue)

end Sys2Proof.Machine
end

