-- ==== Sys2Proof/Machine/LinkOps.lean ====
section
/-!
DEFINITION. The Link Controller's operations: entering HUNTING, the advance, locking and unlocking,
the report of an accepted telegram, and a CHANNELS commit (chapter 2).
-/

namespace Sys2Proof.Machine

/-- Enter HUNTING at an entry (R20): timers cancelled, SETTLING, and the tune word sent, or marked
pending while a transmission is in flight. -/
def State.enterHunting (s : State) (entry : Nat) : State :=
  let s := s.setLink
    { s.link with
      mode := .hunting, phase := .settling, entry := entry, lockedSite := none, settle := none
      dwell := none, silence := .off, tunePending := s.ptt }
  if s.ptt then s else s.sendTune

/-- The entry after the current one, or entry 0 after the last (R23). -/
def State.nextEntry (s : State) : Nat :=
  if s.link.entry + 1 < s.channels.length then s.link.entry + 1 else 0

/-- The advance of R23, counting a hunt pass from the last entry to entry 0. -/
def State.advanceHunt (s : State) : State :=
  if s.link.entry + 1 < s.channels.length then s.enterHunting s.nextEntry
  else
    (s.setLink { s.link with huntPasses := countUp s.link.huntPasses }).enterHunting s.nextEntry

/-- The link is no longer LOCKED: any access ends without an attempt (R52), and the locked site has lost
its meaning (R24). The current entry is still the one that was locked. -/
def State.leaveLocked (s : State) : State :=
  s.endAccess.setLink { s.endAccess.link with mode := .hunting, lockedSite := none }

/-- The link leaves LOCKED (R24, R26): a LINK notice is raised, with the entry that was locked (log entry
11), and then the hunt advances from it. -/
def State.unlock (s : State) : State := (s.leaveLocked.linkNotice .unlocked).advanceHunt

/-- A site meets what a channel list entry expects (R22). -/
def Channel.expects (c : Channel) (site : Nat) : Bool :=
  match c.site with
  | some expected => expected == site
  | none => true

/-- The current entry expects the site (R22). -/
def State.expectsSite (s : State) (site : Nat) : Bool :=
  match s.channels[s.link.entry]? with
  | some c => c.expects site
  | none => false

/-- The silence timer starts with the silence limit in force (R24). -/
def State.startSilence (s : State) : State :=
  s.setLink { s.link with silence := .running (s.now + 1000 * s.op.silence) }

/-- The link becomes LOCKED on the current entry (R22). The choice of R41 comes with State.afterReport. -/
def State.lock (s : State) (site : Nat) : State :=
  let s := s.setLink { s.link with mode := .locked, lockedSite := some site, dwell := none }
  s.startSilence.linkNotice .locked

/-- The report of a site locks the link (R22). -/
def State.locksOn (s : State) (site : Nat) : Bool :=
  s.link.mode == .hunting && s.link.phase == .dwelling && s.expectsSite site

/-- The end of a telegram's arrival, whose report found the link as `s` holds it and whose hand-off left `q`:
where the report locked the link the choice of R41 follows, after the whole arrival, so that no telegram is
handed on while PTT is asserted (R20): DEDUCED (log entry 10). -/
def State.afterReport (s : State) (site : Nat) (q : State) : State :=
  if s.locksOn site then q.choose else q

/-- The report of an accepted telegram (R7, R22, R24). -/
def State.linkReport (s : State) (site : Nat) : State :=
  match s.link.mode with
  | .nochan => s
  | .locked => s.startSilence
  | .hunting =>
    match s.link.phase with
    | .settling => s
    | .dwelling =>
      if s.expectsSite site then s.lock site
      else s.setLink { s.link with siteMismatches := countUp s.link.siteMismatches }

/-- The expiry of the settle timer (R21). -/
def State.settleExpiry (s : State) : State :=
  if s.link.mode = .hunting ∧ s.timerReached s.link.settle = true then
    s.setLink
      { s.link with
        phase := .dwelling, settle := none, dwell := some (s.now + 1000 * s.op.dwell) }
  else s

/-- The expiry of the dwell timer (R23). -/
def State.dwellExpiry (s : State) : State :=
  if s.link.mode = .hunting ∧ s.timerReached s.link.dwell = true then s.advanceHunt else s

/-- The silence timer runs and its deadline is reached. -/
def State.silenceReached (s : State) : Bool :=
  match s.link.silence with
  | .running deadline => s.reached deadline
  | _ => false

/-- The expiry of the silence timer (R24). -/
def State.silenceExpiry (s : State) : State :=
  if s.link.mode = .locked ∧ s.silenceReached = true then s.unlock else s

/-- The entry of a new list that keeps the lock (R27): the lowest index of the locked channel number
whose expected site is the locked site or ANY; failing one, the lowest index of that number. -/
def keptEntry (channels : List Channel) (number : Nat) (site : Option Nat) : Option Nat :=
  match channels.findIdx? (fun c => c.number == number && (c.site == site || c.site.isNone)) with
  | some i => some i
  | none => channels.findIdx? (fun c => c.number == number)

/-- The Link Controller at a CHANNELS commit, the new list being in force and `old` the list before
(R27). The LINK notice of a lost lock shows the entry that was locked, as `old` holds it (log entry 11). -/
def State.channelsCommitted (s : State) (old : List Channel) : State :=
  match s.link.mode with
  | .nochan => s.enterHunting 0
  | .hunting => s.enterHunting 0
  | .locked =>
    match (old[s.link.entry]?).bind (fun c => keptEntry s.channels c.number s.link.lockedSite) with
    | some entry => s.setLink { s.link with entry := entry }
    | none => (s.leaveLocked.linkNoticeOf .unlocked old[s.link.entry]?).enterHunting 0

end Sys2Proof.Machine
end

