-- ==== Sys2Proof/Machine/Tables.lean ====
section
/-!
DEFINITION. Table images: length and check, the validation of each kind field by field, and the table
an image holds (R187, R190, section 13.6).
-/

namespace Sys2Proof.Machine

/-! ## Length and check -/

/-- The image length of a kind (R187). -/
def TableKind.length : TableKind → Nat
  | .address => 40
  | .zoneMap => 6096
  | .channels => 66
  | .tariffSet => 160
  | .phraseBook => 5312
  | .operating => 64
  | .calibration => 8

/-- One byte of the check of R190. -/
def checkStep (check : BitVec 16) (b : Byte) : BitVec 16 := check.rotateLeft 1 ^^^ b.setWidth 16

/-- The check over bytes (R190). -/
def checkOf (bytes : List Byte) : BitVec 16 := bytes.foldl checkStep 0

/-- The check of a staged image (R190). -/
def Staged.check (g : Staged) : BitVec 16 := checkOf (g.image.readAll 0 g.kind.length)

/-! ## Fields -/

/-- A field of an image: the offset of its first byte, and whether it is in range. -/
abbrev Field := Nat × Bool

/-- A field of some bytes, in range from `low` to `high`. -/
def field (m : Memory) (offset width low high : Nat) : Field :=
  (offset, low ≤ m.natAt offset width && m.natAt offset width ≤ high)

/-- The fields of the first `count` entries of a list that starts at `offset` with entries of `size`
bytes, each with its offset in the image: DESIGN CHOICE, as R209's 'offset of the field within that entry'
may also be counted from the entry (log entry 30). -/
def entryFields (offset size count : Nat) (fields : Nat → List Field) : List Field :=
  ((List.range count).map (fun i => fields (offset + size * i))).flatten

/-- The offset of the first field out of range (R187). -/
def badField : List Field → Option Nat
  | [] => none
  | (offset, ok) :: rest => if ok then badField rest else some offset

/-! ## ADDRESS -/

/-- The fields of an ADDRESS image. -/
def addressFields (m : Memory) : List Field :=
  [field m 0 2 1 4094, field m 2 2 1 4094, field m 5 1 0 16]
    ++ entryFields 6 2 (m.natAt 5 1) (fun at' => [field m at' 2 1 4094])

/-- The record an ADDRESS image holds. -/
def AddressRecord.ofImage (m : Memory) : AddressRecord :=
  { fleet := m.natAt 0 2, cab := m.natAt 2 2, attributes := m.read 4
    groups := (List.range (m.natAt 5 1)).map (fun i => m.natAt (6 + 2 * i) 2) }

/-! ## ZONE MAP -/

/-- The fields of a ZONE MAP image. -/
def zoneMapFields (m : Memory) : List Field :=
  entryFields 0 1 4096 (fun at' => [field m at' 1 0 250])
    ++ entryFields 4096 8 250 (fun at' =>
        [field m at' 1 0 250, field m (at' + 1) 1 0 250, field m (at' + 2) 1 0 250,
         field m (at' + 3) 1 0 250, field m (at' + 4) 1 0 250, field m (at' + 5) 1 0 250,
         field m (at' + 6) 1 0 3, field m (at' + 7) 1 0 1])

/-! ## CHANNELS -/

/-- An expected site, or ANY. -/
def siteField (m : Memory) (offset : Nat) : Field :=
  (offset, m.natAt offset 1 ≤ 15 || m.natAt offset 1 == 0xFF)

/-- The fields of a CHANNELS image. -/
def channelsFields (m : Memory) : List Field :=
  field m 0 1 1 16
    :: entryFields 2 4 (m.natAt 0 1) (fun at' =>
        [field m at' 2 0 1023, siteField m (at' + 2), field m (at' + 3) 1 0 1])

/-- One entry of a CHANNELS image. -/
def Channel.ofImage (m : Memory) (offset : Nat) : Channel :=
  { number := m.natAt offset 2
    site := if m.natAt (offset + 2) 1 = 0xFF then none else some (m.natAt (offset + 2) 1)
    role := if m.natAt (offset + 3) 1 = 0 then .home else .alternate }

/-- The list a CHANNELS image holds. -/
def channelsOfImage (m : Memory) : List Channel :=
  (List.range (m.natAt 0 1)).map (fun i => Channel.ofImage m (2 + 4 * i))

/-! ## TARIFF SET -/

/-- The fields of a TARIFF SET image. -/
def tariffSetFields (m : Memory) : List Field :=
  field m 0 1 1 4
    :: entryFields 1 11 (m.natAt 0 1) (fun at' =>
        [field m at' 3 0 99999, field m (at' + 3) 2 1 9999, field m (at' + 5) 2 10 2000,
         field m (at' + 7) 2 1 600, field m (at' + 9) 1 1 20, field m (at' + 10) 1 0 3])
    ++ [field m 45 1 0 8]
    ++ entryFields 46 4 (m.natAt 45 1) (fun at' =>
        [field m at' 1 1 127, field m (at' + 1) 2 0 1439, field m (at' + 3) 1 1 (m.natAt 0 1)])
    ++ entryFields 78 4 8 (fun at' => [field m at' 3 0 99999, field m (at' + 3) 1 0 15])
    ++ entryFields 110 3 3 (fun at' => [field m at' 3 0 99999])
    ++ [field m 119 1 0 30, field m 120 1 0 1]
    ++ (if m.natAt 120 1 = 1 then [field m 123 3 0 86399] else [])

/-- The mode of a code (section 13.6). -/
def TariffMode.ofCode (code : Nat) : TariffMode :=
  match code with
  | 0 => .single
  | 1 => .double
  | 2 => .distance
  | _ => .time

/-- One tariff of a TARIFF SET image. -/
def Tariff.ofImage (m : Memory) (offset : Nat) : Tariff :=
  { flagFall := m.natAt offset 3, drop := m.natAt (offset + 3) 2, distance := m.natAt (offset + 5) 2
    time := m.natAt (offset + 7) 2, firstStep := m.natAt (offset + 9) 1
    mode := TariffMode.ofCode (m.natAt (offset + 10) 1) }

/-- One band of a TARIFF SET image. -/
def Band.ofImage (m : Memory) (offset : Nat) : Band :=
  { days := m.read offset, start := m.natAt (offset + 1) 2, tariff := m.natAt (offset + 3) 1 }

/-- One extra of a TARIFF SET image. -/
def ExtraRate.ofImage (m : Memory) (offset : Nat) : ExtraRate :=
  { amount := m.natAt offset 3, maximum := m.natAt (offset + 3) 1 }

/-- The set a TARIFF SET image holds. -/
def TariffSet.ofImage (m : Memory) : TariffSet :=
  { tariffs := (List.range (m.natAt 0 1)).map (fun i => Tariff.ofImage m (1 + 11 * i))
    bands := (List.range (m.natAt 45 1)).map (fun i => Band.ofImage m (46 + 4 * i))
    extras := (List.range 8).map (fun i => ExtraRate.ofImage m (78 + 4 * i))
    surcharges := (List.range 3).map (fun i => m.natAt (110 + 3 * i) 3)
    grace := m.natAt 119 1
    effective :=
      if m.natAt 120 1 = 1 then some { day := m.natAt 121 2, second := m.natAt 123 3 } else none }

/-! ## PHRASE BOOK -/

/-- A counted character of a phrase. -/
def charField (m : Memory) (offset : Nat) : Field := (offset, isDisplayChar (m.natAt offset 1))

/-- The members of a reply group, with their offsets, before the first 0 (section 13.6). -/
def memberFields (m : Memory) (offset : Nat) : Nat → List Field
  | 0 => []
  | count + 1 =>
    if m.natAt offset 1 = 0 then []
    else field m offset 1 96 127 :: memberFields m (offset + 1) count

/-- The fields of a PHRASE BOOK image. -/
def phraseBookFields (m : Memory) : List Field :=
  entryFields 0 41 128 (fun at' =>
      field m at' 1 0 40 :: entryFields (at' + 1) 1 (m.natAt at' 1) (fun c => [charField m c]))
    ++ entryFields 5248 8 8 (fun at' => memberFields m at' 8)

/-! ## OPERATING RECORD -/

/-- The air bit rate. -/
def bitRateField (m : Memory) (offset : Nat) : Field :=
  (offset, [1200, 2400, 4800].contains (m.natAt offset 2))

/-- The fields of an OPERATING RECORD image. -/
def operatingFields (m : Memory) : List Field :=
  [field m 0 1 5 120, field m 1 2 10 500, field m 3 1 1 30, field m 4 1 20 200, field m 5 1 0 200,
   field m 6 1 1 32, field m 7 1 (m.natAt 6 1) 32, bitRateField m 8, field m 10 1 0 6]
    ++ entryFields 12 2 8 (fun at' => [field m at' 1 0 6, field m (at' + 1) 1 0 15])
    ++ [field m 28 1 0 6, field m 29 1 5 120, field m 30 2 15 600, field m 32 1 0 10,
        field m 33 1 1 30, field m 34 2 0 900, field m 36 1 0 1]

/-- Level and attempt limit at an offset. -/
def KindParams.ofImage (m : Memory) (offset : Nat) : KindParams :=
  { level := m.natAt offset 1, limit := m.natAt (offset + 1) 1 }

/-- The record an OPERATING RECORD image holds; the attempt limit of BID is not read (R53). -/
def OpRecord.ofImage (m : Memory) : OpRecord :=
  { silence := m.natAt 0 1, settle := m.natAt 1 2, dwell := m.natAt 3 1, slot := m.natAt 4 1
    clear := m.natAt 5 1, minWindow := m.natAt 6 1, maxWindow := m.natAt 7 1, bitRate := m.natAt 8 2
    bid := { level := m.natAt 10 1, limit := 0 }
    awardRefusal := KindParams.ofImage m 12
    jobStatus := KindParams.ofImage m 14
    zoneChange := KindParams.ofImage m 16
    driverMessage := KindParams.ofImage m 18
    shiftReport := KindParams.ofImage m 20
    totalsReport := KindParams.ofImage m 22
    statusReply := KindParams.ofImage m 24
    loadResult := KindParams.ofImage m 26
    tripLevel := m.natAt 28 1, beaconInterval := m.natAt 29 1, trackingInterval := m.natAt 30 2
    grace := m.natAt 32 1, awardWait := m.natAt 33 1, noShowWait := m.natAt 34 2
    zoneReporting := m.natAt 36 1 = 1 }

/-! ## CALIBRATION -/

/-- The fields of a CALIBRATION image. -/
def calibrationFields (m : Memory) : List Field := [field m 0 2 500 20000, field m 2 1 20 100]

/-- The calibration an image holds. -/
def Calibration.ofImage (m : Memory) (version : Nat) : Calibration :=
  { version := version, k := m.natAt 0 2, vmax := m.natAt 2 1 }

/-! ## Every kind -/

/-- The fields of an image of a kind (R187). -/
def TableKind.fields (k : TableKind) (m : Memory) : List Field :=
  match k with
  | .address => addressFields m
  | .zoneMap => zoneMapFields m
  | .channels => channelsFields m
  | .tariffSet => tariffSetFields m
  | .phraseBook => phraseBookFields m
  | .operating => operatingFields m
  | .calibration => calibrationFields m

/-- The bad field of a staged image, if any (R187). -/
def Staged.badField (g : Staged) : Option Nat := Machine.badField (g.kind.fields g.image)

end Sys2Proof.Machine
end

