-- ==== Sys2Proof/Machine/ZoneOps.lean ====
section
/-!
DEFINITION. The Zone Unit's operations: the zone-change rule, a position report, and a ZONE MAP commit
(chapter 4).
-/

namespace Sys2Proof.Machine

/-- The conditions of the zone-change rule (R62). -/
def State.zoneChanged (s : State) (old : Nat) : Bool :=
  s.zone.zone != old && s.zone.zone != 0 && s.meter.mode == .vacant && !s.dcu.barred
    && s.op.zoneReporting

/-- Apply the zone-change rule to the zone before an event and the current zone (R62, R63); the flag
says that a ZONE CHANGE joined or replaced a body (R64). -/
def State.zoneRule (s : State) (old : Nat) : Joined :=
  if s.zoneChanged old then s.join .zoneChange (zoneChangeBody s) none
  else { state := s, joined := false }

/-- A report with a fix in range (R60), up to its response. -/
def State.takeFix (s : State) (c : Cell) : Joined :=
  (s.setZone { cell := some c, stale := false, zone := s.zoneAt c }).zoneRule s.zone.zone

/-- A report without a fix (R61). -/
def State.takeNoFix (s : State) : State := s.setZone { s.zone with stale := true }

/-- The Zone Unit at a ZONE MAP commit, the new map being in force (R65). -/
def State.zoneMapCommitted (s : State) : State :=
  match s.zone.cell with
  | some c => ((s.setZone { s.zone with zone := s.zoneAt c }).zoneRule s.zone.zone).state
  | none => s

end Sys2Proof.Machine
end

