-- ==== Sys2Proof/Machine/LoadOps.lean ====
section
/-!
DEFINITION. The Dispatch Control Unit's operations: loads from the air and from the cab port, commits,
barring, restart and status queries (chapter 11).
-/

namespace Sys2Proof.Machine

/-! ## LOAD OPEN (R188, R193) -/

/-- The staged load changes. -/
def State.setStaging (s : State) (g : Option Staged) : State := s.setDcu { s.dcu with staging := g }

/-- A LOAD OPEN is taken: every byte of the staging area becomes 0xFF (R188). -/
def State.openLoad (s : State) (kind : TableKind) (version : Nat) : State :=
  s.setStaging (some { kind := kind, version := version, image := [] })

/-- A LOAD RESULT is queued (R193). -/
def State.loadResult (s : State) (kind version : Nat) (outcome : LoadOutcome) : State :=
  s.queue .loadResult (loadResultBody kind version outcome)

/-- A LOAD OPEN from the air (R188). -/
def State.airLoadOpen (s : State) (arg : LoadOpenArg) : State :=
  match TableKind.ofCode arg.kind.toNat with
  | none => s
  | some kind =>
    if kind = .calibration ∧ s.calen = false then s.loadResult 7 arg.version.toNat .locked
    else s.openLoad kind arg.version.toNat

/-- A LOAD OPEN from the cab port (R188, R193). -/
def State.cabLoadOpen (s : State) (arg : LoadOpenArg) : Answer :=
  if !s.calen then s.refuse .locked
  else
    match TableKind.ofCode arg.kind.toNat with
    | none => s.refuse .argument
    | some kind => (s.openLoad kind arg.version.toNat).doneWith []

/-! ## LOAD DATA (R189, R193) -/

/-- The bytes of a LOAD DATA that lie in the image. -/
def Staged.inside (g : Staged) (arg : LoadDataArg) : List Byte :=
  arg.data.take (g.kind.length - arg.offset.toNat)

/-- The staged load after a LOAD DATA. -/
def Staged.write (g : Staged) (arg : LoadDataArg) : Staged :=
  { g with image := g.image.writeAll arg.offset.toNat (g.inside arg) }

/-- Some byte of a LOAD DATA is dropped (R189). -/
def Staged.drops (g : Staged) (arg : LoadDataArg) : Bool := (g.inside arg).length < arg.data.length

/-- Load data discarded rises by one (R189). -/
def State.countDiscarded (s : State) : State :=
  s.setDcu { s.dcu with loadDiscarded := countUp s.dcu.loadDiscarded }

/-- What became of a LOAD DATA (R193). -/
inductive LoadWrite where
  | whole
  | dropped
  | nothingStaged
  deriving DecidableEq, Repr

/-- What becomes of a LOAD DATA in the state that takes it. -/
def State.loadWrite (s : State) (arg : LoadDataArg) : LoadWrite :=
  match s.dcu.staging with
  | none => .nothingStaged
  | some g => if g.drops arg then .dropped else .whole

/-- The bytes of a LOAD DATA are written, and a dropped byte is counted (R189). -/
def State.writeLoad (s : State) (arg : LoadDataArg) : State :=
  match s.dcu.staging with
  | none => if arg.data.isEmpty then s else s.countDiscarded
  | some g =>
    let s := s.setStaging (some (g.write arg))
    if g.drops arg then s.countDiscarded else s

/-- A LOAD DATA from the cab port (R189, R193). -/
def State.cabLoadData (s : State) (arg : LoadDataArg) : Answer :=
  if !s.calen then s.refuse .locked
  else
    match s.loadWrite arg with
    | .whole => (s.writeLoad arg).doneWith []
    | .dropped => (s.writeLoad arg).refuse .argument
    | .nothingStaged => (s.writeLoad arg).refuse .state

/-! ## LOAD COMMIT (R191 to R193) -/

/-- The tests of R191 on a staged load. -/
def State.commitTests (s : State) (g : Staged) (check : BitVec 16) : LoadOutcome :=
  if check ≠ g.check then .check
  else
    match g.badField with
    | some offset => .invalid offset
    | none =>
      if g.kind = .calibration ∧ s.calen = false then .locked
      else if g.kind = .calibration ∧ (s.meter.mode = .hired ∨ s.meter.mode = .stopped) then .busy
      else .done

/-- An ADDRESS commit at its owners: the offer table and every BID go, and then the generator is seeded with
the new cab number (R45, R86, R192). A choice that the removal of the BIDs lets through comes before the
seed: DESIGN CHOICE (log entry 10). -/
def State.commitAddress (s : State) (v : Versioned AddressRecord) : State :=
  let s := (s.setDcu { s.dcu with address := some v, staging := none }).emptyOffers
  s.setUls { s.uls with rng := v.table.cab }

/-- A ZONE MAP commit (R65, R192). -/
def State.commitZoneMap (s : State) (v : Versioned Memory) : State :=
  (s.setDcu { s.dcu with zoneMap := some v, staging := none }).zoneMapCommitted

/-- A CHANNELS commit (R27, R192). -/
def State.commitChannels (s : State) (v : Versioned (List Channel)) : State :=
  (s.setDcu { s.dcu with channels := some v, staging := none }).channelsCommitted s.channels

/-- A TARIFF SET commit: it waits in the pending bank (R121, R192). -/
def State.commitTariffSet (s : State) (b : Bank) : State :=
  (s.setStaging none).setMeter { s.meter with pendingBank := some b, ready := true }

/-- A PHRASE BOOK commit (R192). -/
def State.commitPhraseBook (s : State) (v : Versioned Memory) : State :=
  s.setDcu { s.dcu with phrases := some v, staging := none }

/-- An OPERATING RECORD commit: the conditions of a choice are tested again (R41, R192). -/
def State.commitOperating (s : State) (v : Versioned OpRecord) : State :=
  (s.setDcu { s.dcu with operating := some v, staging := none }).choose

/-- A CALIBRATION commit: the residue becomes 0 (R134, R192). -/
def State.commitCalibration (s : State) (c : Calibration) : State :=
  (s.setStaging none).setMeter { s.meter with calibration := some c, residue := 0 }

/-- A commit with outcome DONE at its table and its owner (R192, steps 1 and 2). -/
def State.commitTable (s : State) (g : Staged) : State :=
  match g.kind with
  | .address => s.commitAddress { version := g.version, table := AddressRecord.ofImage g.image }
  | .zoneMap => s.commitZoneMap { version := g.version, table := g.image }
  | .channels => s.commitChannels { version := g.version, table := channelsOfImage g.image }
  | .tariffSet => s.commitTariffSet { version := g.version, set := TariffSet.ofImage g.image }
  | .phraseBook => s.commitPhraseBook { version := g.version, table := g.image }
  | .operating => s.commitOperating { version := g.version, table := OpRecord.ofImage g.image }
  | .calibration => s.commitCalibration (Calibration.ofImage g.image g.version)

/-- A commit with its TABLE notice (R192, steps 1 to 3). -/
def State.commit (s : State) (g : Staged) : State := (s.commitTable g).tableNotice g.kind g.version

/-- The outcome of a LOAD COMMIT (R191). -/
def State.commitOutcome (s : State) (check : BitVec 16) : LoadOutcome :=
  match s.dcu.staging with
  | none => .notOpen
  | some g => s.commitTests g check

/-- The state after a LOAD COMMIT, before its answer (R191, R192). -/
def State.afterCommit (s : State) (check : BitVec 16) : State :=
  match s.dcu.staging with
  | none => s
  | some g =>
    match s.commitTests g check with
    | .done => s.commit g
    | .busy => s
    | .notOpen => s
    | .check => s.setStaging none
    | .invalid _ => s.setStaging none
    | .locked => s.setStaging none

/-- The number of the staged kind, 0 with nothing staged (R193). -/
def State.stagedKind (s : State) : Nat := (s.dcu.staging.map (fun g => g.kind.code)).getD 0

/-- The staged version, 0 with nothing staged (R193). -/
def State.stagedVersion (s : State) : Nat := (s.dcu.staging.map (fun g => g.version)).getD 0

/-- A LOAD COMMIT from the air, answered by a LOAD RESULT (R191 to R193). -/
def State.airLoadCommit (s : State) (check : BitVec 16) : State :=
  (s.afterCommit check).loadResult s.stagedKind s.stagedVersion (s.commitOutcome check)

/-- A LOAD COMMIT from the cab port, answered with outcome and offset (R191 to R193, log entry 13). -/
def State.cabLoadCommit (s : State) (check : BitVec 16) : Answer :=
  if !s.calen then s.refuse .locked
  else
    let outcome := s.commitOutcome check
    { state := s.afterCommit check
      code := outcome.response
      fields := [be 1 outcome.code, optional 2 outcome.badOffset] }

/-! ## Barring and restart (R194, R195) -/

/-- A BAR is taken (R194). -/
def State.takeBar (s : State) : State :=
  if s.dcu.barred then s
  else ((s.setDcu { s.dcu with barred := true }).emptyOffers).barNotice 0

/-- A REINSTATE is taken (R194). -/
def State.takeReinstate (s : State) : State :=
  if s.dcu.barred then (s.setDcu { s.dcu with barred := false }).barNotice 1 else s

/-- Every entry leaves the uplink queue (R56). -/
def State.clearQueue (s : State) : State := s.removeEntries (fun _ => true)

/-- A RESTART is taken (R195). The BIDs leave with every other queue entry (log entry 10). -/
def State.takeRestart (s : State) : State :=
  let s := s.setStaging none
  let s := s.setOffers { s.offers with table := [] }
  let s := s.clearQueue
  let s := s.setMsgs { s.msgs with store := [] }
  s.restartNotice

/-! ## Status queries (R198) -/

/-- The sixteen counters are set to 0 (R198). -/
def State.clearCounters (s : State) : State :=
  let s := s.setAir { s.air with counters := RxCounters.zero }
  let s := s.setLink { s.link with siteMismatches := 0, huntPasses := 0 }
  let s := s.setUls { s.uls with drops := 0, displaced := 0, bidsLost := 0 }
  let s := s.setOffers { s.offers with passed := 0, displaced := 0 }
  let s := s.setMsgs { s.msgs with lost := 0 }
  s.setDcu { s.dcu with loadDiscarded := 0 }

/-- A STATUS REPLY is queued (R198). -/
def State.statusReply (s : State) (body : List Byte) : State := s.queue .statusReply body

/-- A STATUS QUERY with code COUNTERS: the reply is assembled, the counters are cleared if the flag is
set, and the reply joins (R198). -/
def State.queryCounters (s : State) (clear : Bool) : State :=
  (if clear then s.clearCounters else s).statusReply (countersBody s)

/-- A STATUS QUERY is taken; a code that names nothing is dropped (R198). -/
def State.takeStatusQuery (s : State) (code : Nat) (clear : Bool) : State :=
  match code with
  | 0 => s.statusReply (identityBody s)
  | 1 => s.statusReply (versionsBody s)
  | 2 => s.queryCounters clear
  | 3 => s.statusReply (snapshotBody s)
  | _ => s

end Sys2Proof.Machine
end

