-- ==== Sys2Proof/Machine/MessageOps.lean ====
section
/-!
DEFINITION. The Message Store's operations (chapter 9): taking a message, eviction, lifetimes, and the
driver's requests.
-/

namespace Sys2Proof.Machine

/-! ## The store -/

/-- The held message of a number. -/
def Messages.find (m : Messages) (number : Nat) : Option Message :=
  m.store.find? (fun x => x.number == number)

/-- The message of a number leaves the store; those behind it close up (R160). -/
def Messages.remove (m : Messages) (number : Nat) : Messages :=
  { m with store := m.store.filter (fun x => x.number != number) }

/-- Put a message in the place of the held one of its number. -/
def Messages.put (m : Messages) (x : Message) : Messages :=
  { m with store := m.store.map (fun y => if y.number == x.number then x else y) }

/-- A message leaves the store with a notice (R167). -/
def State.dropMessage (s : State) (cause : MsgCause) (x : Message) : State :=
  (s.setMsgs (s.msgs.remove x.number)).messageNotice cause x

/-! ## Eviction (R161) -/

/-- A message the first step of the search finds. -/
def Message.settled (x : Message) : Bool := x.state != .unread

/-- A message the second step of the search finds. -/
def Message.plainUnread (x : Message) : Bool := x.state == .unread && x.cls != .urgent

/-- The message the search of R161 finds. -/
def Messages.victim (m : Messages) : Option Message :=
  match m.store.find? Message.settled with
  | some x => some x
  | none =>
    match m.store.find? Message.plainUnread with
    | some x => some x
    | none => m.store.head?

/-- Messages lost rises by one when the evicted message is UNREAD (R161). -/
def Messages.countLost (m : Messages) (x : Message) : Messages :=
  if x.state = .unread then { m with lost := countUp m.lost } else m

/-- A message is evicted from a full store (R161). -/
def State.evict (s : State) : State :=
  match s.msgs.victim with
  | some x => (s.setMsgs (s.msgs.countLost x)).dropMessage .evicted x
  | none => s

/-- Step 4 of R159. -/
def State.makeRoom (s : State) : State :=
  if s.msgs.store.length < Config.storeMax then s else s.evict

/-! ## Taking a message (R158, R159) -/

/-- The class and the link a message is stored with (R159, step 2). -/
def State.classAndLink (s : State) (cls : MsgClass) (job : Option Nat) : MsgClass × Option Nat :=
  match cls with
  | .normal => (.normal, none)
  | .urgent => (.urgent, none)
  | .jobnote =>
    match job with
    | some number => if s.jobs.holds number then (.jobnote, some number) else (.normal, none)
    | none => (.normal, none)

/-- The record of a message at its arrival (R159, step 5). -/
def State.messageRecord (s : State) (m : MessageBody) (cls : MsgClass) : Message :=
  let kept := s.classAndLink cls m.job
  { number := m.number, cls := kept.1, job := kept.2, group := m.group, state := .unread
    received := s.wallStamp
    life := m.lifetime.map (fun l => { minutes := l, seconds := 0 })
    text := s.expand 116 240 m.codes }

/-- A message joins the end of the store with a notice (R159, steps 5 and 6). -/
def State.storeMessage (s : State) (x : Message) : State :=
  (s.setMsgs { s.msgs with store := s.msgs.store ++ [x] }).messageNotice .new x

/-- A MESSAGE is taken (R158, R159). -/
def State.takeMessage (s : State) (m : MessageBody) : State :=
  match m.cls with
  | none => s
  | some cls =>
    if !m.inRange then s
    else if (s.msgs.find m.number).isSome then s
    else s.makeRoom.storeMessage (s.messageRecord m cls)

/-! ## Lifetimes (R162) and the leaving of a job (R163) -/

/-- One second of a lifetime (R162). -/
def Lifetime.count (l : Lifetime) : Lifetime :=
  if l.seconds + 1 < 60 then { l with seconds := l.seconds + 1 }
  else { minutes := l.minutes - 1, seconds := 0 }

/-- One second of a message's lifetime, when it has one. -/
def Message.count (x : Message) : Message := { x with life := x.life.map Lifetime.count }

/-- The remaining lifetime has reached 0. -/
def Message.expired (x : Message) : Bool :=
  match x.life with
  | some l => l.minutes == 0
  | none => false

/-- The seconds tick at the Message Store: every lifetime counts, and each message whose lifetime has
run out is removed with a notice (R162). All lifetimes count before the first removal, and the removals are
in arrival order: DESIGN CHOICE, the spec does not order them (log entry 29). -/
def State.tickMessages (s : State) : State :=
  let s := s.setMsgs { s.msgs with store := s.msgs.store.map Message.count }
  (s.msgs.store.filter Message.expired).foldl (State.dropMessage · .expired ·) s

/-- The message's lifetime runs out with the tick now taken, or has run out (R162, log entry 8). -/
def Message.ending (x : Message) : Bool := x.expired || x.count.expired

/-- The end of one message's lifetime (R162, log entry 8). -/
def State.expireMessage (s : State) (number : Nat) : State :=
  match s.msgs.find number with
  | some x => if x.ending then s.dropMessage .expired x else s
  | none => s

/-- The message is a JOBNOTE linked to a job. -/
def Message.linkedTo (number : Nat) (x : Message) : Bool :=
  x.cls == .jobnote && x.job == some number

/-- The JOBNOTE messages of a job that has left the book are removed with a notice each (R163), in arrival
order: DESIGN CHOICE, the spec does not order them (log entry 29). -/
def State.jobGone (s : State) (number : Nat) : State :=
  (s.msgs.store.filter (Message.linkedTo number)).foldl (State.dropMessage · .jobGone ·) s

/-! ## The driver's requests (R164 to R166) -/

/-- A driver phrase: 96 to 127. -/
def isDriverPhrase (phrase : Nat) : Bool := 96 ≤ phrase && phrase ≤ 127

/-- MARK READ (R164). -/
def State.markRead (s : State) (number : Nat) : Answer :=
  if number = 0 then s.refuse .argument
  else
    match s.msgs.find number with
    | none => s.refuse .state
    | some x =>
      if x.state = .unread then (s.setMsgs (s.msgs.put { x with state := .read })).doneWith []
      else s.doneWith []

/-- A DRIVER MESSAGE is handed to the Uplink Scheduler (R165, R166). -/
def State.driverMessage (s : State) (number phrase : Nat) : Joined :=
  s.join .driverMessage (driverMessageBody s number phrase) none

/-- Tests 1 to 6 of R165 for a held message, after test 1 and 2; none when all pass. -/
def State.replyRefusal (s : State) (x : Message) (phrase : Nat) : Option RespCode :=
  if x.state = .replied then some .state
  else
    match x.group with
    | none => some .state
    | some group =>
      match s.book with
      | none => some .table
      | some book => if (groupMembers book group).contains phrase then none else some .argument

/-- REPLY (R165). -/
def State.reply (s : State) (number phrase : Nat) : Answer :=
  if number = 0 || !isDriverPhrase phrase then s.refuse .argument
  else
    match s.msgs.find number with
    | none => s.refuse .state
    | some x =>
      match s.replyRefusal x phrase with
      | some code => s.refuse code
      | none =>
        let j := s.driverMessage number phrase
        if j.joined then
          (j.state.setMsgs (j.state.msgs.put { x with state := .replied })).doneWith []
        else j.state.refuse .full

/-- SEND (R166). -/
def State.send (s : State) (phrase : Nat) : Answer :=
  if !isDriverPhrase phrase then s.refuse .argument
  else
    let j := s.driverMessage 0 phrase
    if j.joined then j.state.doneWith [] else j.state.refuse .full

end Sys2Proof.Machine
end

