-- ==== Sys2Proof/Machine/JobOps.lean ====
section
/-!
DEFINITION. The Job Book's operations (chapter 6), and the Offer Controller's AWARD, which places a job
(R82 to R84).
-/

namespace Sys2Proof.Machine

/-! ## Promotion and leaving -/

/-- The oldest QUEUED job moves into an empty ACTIVE place with a notice (R98). -/
def State.promote (s : State) : State :=
  match s.jobs.active, s.jobs.queued with
  | none, j :: rest => (s.setJobs { active := some j, queued := rest }).jobNotice .promoted j (some true)
  | _, _ => s

/-- The ACTIVE job leaves the book, up to step 3 of R99. -/
def State.leaveActive (s : State) (j : Job) : State :=
  ((s.setJobs { s.jobs with active := none }).jobGone j.number).promote

/-- A QUEUED job leaves the book, up to step 3 of R99. -/
def State.leaveQueued (s : State) (j : Job) : State :=
  (s.setJobs { s.jobs with queued := s.jobs.queued.filter (fun k => k.number != j.number) }).jobGone
    j.number

/-- A JOB STATUS is queued (R105). -/
def State.jobStatus (s : State) (j : Job) (status : JobReport) : State :=
  s.queue .jobStatus (jobStatusBody s j status)

/-! ## Placing a job (R94, R95, R97) -/

/-- A job to place, from an AWARD or an ASSIGN. -/
structure JobRequest where
  number : Nat
  source : JobSource
  offer : Option Nat
  kind : JobKind
  zone : Nat
  account : Option Nat
  price : Option Nat
  pickupTime : Option WallStamp
  codes : List Nat
  deriving DecidableEq, Repr

/-- The record of a job that joins (R94), its pickup text expanded now (R97). -/
def State.jobRecord (s : State) (r : JobRequest) : Job :=
  { number := r.number, source := r.source, offer := r.offer, kind := r.kind, zone := r.zone
    text := s.expand 80 120 r.codes
    account := r.account, price := r.price, pickupTime := r.pickupTime
    state := .assigned, placed := s.now, arrived := none }

/-- The Job Book's answer to a placement: the state after, and whether the placement was taken. -/
structure Placed where
  state : State
  taken : Bool

/-- A job joins as ACTIVE (R94). -/
def State.joinActive (s : State) (j : Job) : State :=
  (s.setJobs { s.jobs with active := some j }).jobNotice .placed j (some true)

/-- A job joins as QUEUED (R94), and with the ACTIVE place empty and the meter VACANT the oldest QUEUED
job moves up (R98). -/
def State.joinQueued (s : State) (j : Job) : State :=
  let s := (s.setJobs { s.jobs with queued := s.jobs.queued ++ [j] }).jobNotice .placed j (some false)
  if s.meter.mode = .vacant then s.promote else s

/-- Place a job: a repeat, a job that joins, or a refusal with BOOK FULL (R94). -/
def State.placeJob (s : State) (r : JobRequest) : Placed :=
  if s.jobs.holds r.number then { state := s, taken := true }
  else if r.kind = .street ∧ s.jobs.active = none ∧ s.meter.mode = .vacant then
    { state := s.joinActive (s.jobRecord r), taken := true }
  else if s.jobs.queued.length < Config.queuedMax then
    { state := s.joinQueued (s.jobRecord r), taken := true }
  else { state := s, taken := false }

/-- An AWARD REFUSAL is queued (R82, R96). -/
def State.refuseAward (s : State) (offer job : Nat) (reason : Reason) : State :=
  s.queue .awardRefusal (awardRefusalBody offer job reason)

/-! ## ASSIGN (R96) -/

/-- What an ASSIGN asks the Job Book to place. -/
def AssignBody.request (a : AssignBody) : JobRequest :=
  { number := a.job, source := .assign, offer := none, kind := a.kind, zone := a.zone
    account := a.account, price := a.price, pickupTime := a.pickupTime, codes := a.codes }

/-- An ASSIGN is taken (R96). -/
def State.takeAssign (s : State) (a : AssignBody) : State :=
  if !a.inRange then s
  else if s.jobs.holds a.job then s
  else if s.dcu.barred then s.refuseAward 0 a.job .barred
  else if s.emu.overtCall then s.refuseAward 0 a.job .emergency
  else if s.meter.mode = .offShift then s.refuseAward 0 a.job .offShift
  else
    let p := s.placeJob a.request
    if p.taken then p.state else p.state.refuseAward 0 a.job .bookFull

/-! ## AWARD (R82 to R84) -/

/-- What an AWARD asks the Job Book to place, with the pickup zone of the removed entry. -/
def AwardBody.request (a : AwardBody) (zone : Nat) : JobRequest :=
  { number := a.job, source := .award, offer := some a.offer, kind := a.kind, zone := zone
    account := a.account, price := a.price, pickupTime := a.pickupTime, codes := a.codes }

/-- An AWARD that finds its entry before the lapse time (R83). -/
def State.takeAwardFor (s : State) (a : AwardBody) (e : OfferEntry) : State :=
  let s := (s.removeBid a.offer).dropOffer e .awarded
  let p := s.placeJob (a.request e.zone)
  if p.taken then p.state else p.state.refuseAward a.offer a.job .bookFull

/-- An AWARD is taken (R82 to R84). -/
def State.takeAward (s : State) (a : AwardBody) : State :=
  if !a.inRange then s
  else if s.dcu.barred then s.refuseAward a.offer a.job .barred
  else if s.emu.overtCall then s.refuseAward a.offer a.job .emergency
  else
    match s.offers.find a.offer with
    | none => s.refuseAward a.offer a.job .lapsed
    | some e =>
      if s.reached e.lapse then (s.refuseAward a.offer a.job .lapsed).lapseOffer e
      else s.takeAwardFor a e

/-! ## The driver's requests (R100, R101) -/

/-- The ACTIVE job, when it has a number and a state. -/
def JobBook.activeIn (b : JobBook) (number : Nat) (state : JobState) : Option Job :=
  b.active.filter (fun j => j.number == number && j.state == state)

/-- ARRIVED (R100). -/
def State.arrived (s : State) (number : Nat) : Answer :=
  if number = 0 then s.refuse .argument
  else
    match s.jobs.activeIn number .assigned with
    | none => s.refuse .state
    | some j =>
      let j' := { j with state := .arrived, arrived := some s.now }
      ((s.setJobs { s.jobs with active := some j' }).jobStatus j' .arrived).doneWith []

/-- The end of the no-show wait of an ARRIVED job (R101). -/
def State.noShowTime (s : State) (j : Job) : Nat := j.arrived.getD 0 + 1000 * s.op.noShowWait

/-- NO-SHOW (R101). -/
def State.noShow (s : State) (number : Nat) : Answer :=
  if number = 0 then s.refuse .argument
  else
    match s.jobs.activeIn number .arrived with
    | none => s.refuse .state
    | some j =>
      if s.reached (s.noShowTime j) then ((s.leaveActive j).jobStatus j .noShow).doneWith []
      else s.refuse .state

/-! ## Binding, trip close and cancellation (R102 to R104) -/

/-- The ACTIVE job that a HIRE with BIND can bind (R102). -/
def JobBook.bindable (b : JobBook) : Option Job := b.active.filter (fun j => j.state != .onBoard)

/-- The ACTIVE job becomes ON-BOARD and a JOB STATUS is queued (R102). -/
def State.bindJob (s : State) (j : Job) : State :=
  let j' := { j with state := .onBoard }
  (s.setJobs { s.jobs with active := some j' }).jobStatus j' .onBoard

/-- The Job Book at a trip close, told the job the trip was bound to (R103). -/
def State.tripClosed (s : State) (bound : Option Nat) : State :=
  match bound, s.jobs.active with
  | some _, some j => s.leaveActive j
  | some _, none => s
  | none, _ => s.promote

/-- A JOB CANCEL is taken (R104). -/
def State.takeJobCancel (s : State) (number : Nat) : State :=
  match s.jobs.active.filter (fun j => j.number == number) with
  | some j =>
    if j.state = .onBoard then s.jobStatus j .onBoard
    else (s.leaveActive j).jobNotice .cancelled j none
  | none =>
    match s.jobs.queued.find? (fun j => j.number == number) with
    | some j => (s.leaveQueued j).jobNotice .cancelled j none
    | none => s

end Sys2Proof.Machine
end

