-- ==== Sys2Proof/Machine/TripOps.lean ====
section
/-!
DEFINITION. The Trip Recorder's operations (chapter 8): closing a trip, the shift records, recalls and
totals queries.
-/

namespace Sys2Proof.Machine

/-! ## The current shift record (R147) -/

/-- The current shift record changes; with no shift open nothing does. -/
def State.updateShift (s : State) (f : ShiftRecord → ShiftRecord) : State :=
  s.setTrips { s.trips with current := s.trips.current.map f }

/-- The lifetime odometer receives metres (R147). -/
def State.addOdometer (s : State) (m : Nat) : State :=
  s.setTrips { s.trips with odometer := sumUp s.trips.odometer m }

/-- The shift's vacant metres receive metres (R147). -/
def State.addVacant (s : State) (m : Nat) : State :=
  s.updateShift fun r => { r with vacantMetres := sumUp r.vacantMetres m }

/-- The shift's clamped metres receive an excess (R147). -/
def State.addClamped (s : State) (excess : Nat) : State :=
  s.updateShift fun r => { r with clampedMetres := sumUp r.clampedMetres excess }

/-- The shift's sequence faults rise by one (R111, R147). -/
def State.countFault (s : State) : State :=
  s.updateShift fun r => { r with faults := countUp r.faults }

/-! ## Closing a trip (R138 to R141) -/

/-- The trip sequence counter after a number (R139). -/
def nextSequence (n : Nat) : Nat := if Config.sequenceMax ≤ n then 1 else n + 1

/-- The record a closed trip leaves (R138): the account number only with form ACCOUNT, LIMIT as found
at the close (R130). -/
def Trip.record (p : Trip) (sequence : Nat) (form : PayForm) (power : Bool) : TripRecord :=
  { sequence := sequence, job := p.job, shift := p.shift, start := p.start, seconds := p.seconds
    metres := p.metres, firstTariff := p.firstTariff, lastTariff := p.lastTariff, drops := p.drops
    fare := p.fare, extras := p.extras, surcharge := p.surcharge, price := p.price
    charged := p.charged, form := form
    account := if form = .account then p.account else none
    limit := p.findCharged.limit, clamp := p.clamp, resumed := p.resumed, power := power }

/-- The amount a payment sum receives (R140). -/
def TripRecord.paid (t : TripRecord) (form : PayForm) : Nat := if t.form = form then t.charged else 0

/-- A closed trip is added into a shift record (R140). -/
def ShiftRecord.add (r : ShiftRecord) (t : TripRecord) : ShiftRecord :=
  { r with
    trips := countUp r.trips
    hiredMetres := sumUp r.hiredMetres t.metres
    hiredSeconds := sumUp r.hiredSeconds t.seconds
    fareSum := sumUp r.fareSum t.fare
    extrasSum := sumUp r.extrasSum t.extras
    surchargeSum := sumUp r.surchargeSum t.surcharge
    chargedSum := sumUp r.chargedSum t.charged
    cashSum := sumUp r.cashSum (t.paid .cash)
    cardSum := sumUp r.cardSum (t.paid .card)
    accountSum := sumUp r.accountSum (t.paid .account)
    unsettledSum := sumUp r.unsettledSum (t.paid .unsettled)
    fixedTrips := if t.price.isSome then countUp r.fixedTrips else r.fixedTrips
    interrupted := if t.power then countUp r.interrupted else r.interrupted
    firstTrip := some (r.firstTrip.getD t.sequence)
    lastTrip := some t.sequence }

/-- The slot of a number holds an UNREPORTED record (R139). -/
def Trips.slotUnreported (t : Trips) (sequence : Nat) : Bool :=
  match t.log[slotOf sequence]? with
  | some (some h) => !h.reported
  | _ => false

/-- The current shift's unreported-lost count rises by one when a record is lost (R139). -/
def ShiftRecord.countLost (r : ShiftRecord) (lost : Bool) : ShiftRecord :=
  if lost then { r with unreportedLost := countUp r.unreportedLost } else r

/-- A trip is closed with the number of the trip sequence counter (R139). -/
def Trips.close (t : Trips) (p : Trip) (form : PayForm) (power : Bool) (stamp : Nat) : Trips :=
  let r := p.record t.sequence form power
  { t with
    sequence := nextSequence t.sequence
    log := t.log.set (slotOf t.sequence) (some { record := r, reported := false, closeStamp := stamp })
    current := t.current.map (fun c => (c.countLost (t.slotUnreported t.sequence)).add r) }

/-- The trip-report source may have become ready: a choice may follow (R38, R41). -/
def State.tripReady (s : State) (before : Trips) : State :=
  if before.candidate.isNone && s.trips.candidate.isSome then s.choose else s

/-- The Trip Recorder closes the trip handed over (R139). -/
def State.closeTrip (s : State) (p : Trip) (form : PayForm) : State :=
  (s.setTrips (s.trips.close p form false s.now)).tripReady s.trips

/-! ## Shift records (R145 to R148) -/

/-- A new shift record (R146). -/
def ShiftRecord.new (number driver : Nat) (opened : Option WallStamp) : ShiftRecord :=
  { number := number, driver := driver, opened := opened, closed := none
    trips := 0, fixedTrips := 0, interrupted := 0, hiredMetres := 0, hiredSeconds := 0
    vacantMetres := 0, fareSum := 0, extrasSum := 0, surchargeSum := 0, chargedSum := 0
    cashSum := 0, cardSum := 0, accountSum := 0, unsettledSum := 0, faults := 0, clampedMetres := 0
    firstTrip := none, lastTrip := none, unreportedLost := 0 }

/-- A new shift starts (R146). -/
def State.startShift (s : State) (driver : Nat) : State :=
  let number := nextNumber s.trips.lastShift
  s.setTrips
    { s.trips with
      lastShift := number
      current := some (ShiftRecord.new number driver s.wallStamp) }

/-- The current shift record is frozen and a SHIFT REPORT is queued (R148). -/
def State.freezeShift (s : State) : State :=
  match s.trips.current with
  | some r =>
    let r' := { r with closed := s.wallStamp }
    (s.setTrips { s.trips with previous := some r', current := none }).queue .shiftReport
      (shiftReportBody r' s.trips.odometer)
  | none => s

/-! ## Recalls and queries (R144, R149) -/

/-- A TRIP RECALL is taken (R144). -/
def State.takeRecall (s : State) (sequence : Nat) : State :=
  if sequence = 0 then s
  else
    match s.trips.find sequence with
    | some _ => (s.setTrips (s.trips.markReported sequence false)).tripReady s.trips
    | none => s.queue .statusReply (recallMissBody sequence)

/-- The shift record of a selector: 0 CURRENT, 1 PREVIOUS (section 13.2). -/
def Trips.selected (t : Trips) (selector : Nat) : Option ShiftRecord :=
  if selector = 0 then t.current else t.previous

/-- A TOTALS QUERY is taken (R149). -/
def State.takeTotalsQuery (s : State) (selector : Nat) : State :=
  if 1 < selector then s
  else
    match s.trips.selected selector with
    | some r => s.queue .totalsReport (totalsReportBody selector r s.trips.odometer)
    | none => s.queue .statusReply (noShiftBody selector)

end Sys2Proof.Machine
end

