-- ==== Sys2Proof/Machine/MeterOps.lean ====
section
/-!
DEFINITION. The Meter's operations (chapter 7): pulses, settlement, accrual and drops, tariff bands,
hire start, and the meter requests.
-/

namespace Sys2Proof.Machine

/-! ## Pulses (R114) -/

/-- One WHEEL pulse: 1,000 joins the residue, and each K in it is a metre (R114). -/
def Meter.pulse (x : Meter) : Meter :=
  match x.calibration with
  | none => x
  | some c =>
    { x with
      residue := (x.residue + 1000) % c.k
      m := min 65535 (x.m + (x.residue + 1000) / c.k) }

/-! ## Changes of the trip in progress -/

/-- The trip in progress changes; with none, nothing does. -/
def State.updateTrip (s : State) (f : Trip → Trip) : State :=
  s.setMeter { s.meter with trip := s.meter.trip.map f }

/-- The trip's hired metres receive metres. -/
def Trip.addMetres (m : Nat) (p : Trip) : Trip := { p with metres := sumUp p.metres m }

/-! ## Clamp and settlement (R115, R116) -/

/-- m over vmax becomes vmax; the excess goes to the shift's clamped metres, unless OFF-SHIFT, and a
trip in progress gets the CLAMP flag (R115 step 1, R116 step 1). -/
def State.clampMetres (s : State) : State :=
  match s.meter.calibration with
  | none => s
  | some c =>
    if c.vmax < s.meter.m then
      let excess := s.meter.m - c.vmax
      let s := s.setMeter
        { s.meter with
          m := c.vmax
          trip := s.meter.trip.map (fun p => { p with clamp := true }) }
      if s.meter.mode = .offShift then s else s.addClamped excess
    else s

/-- m becomes 0. -/
def State.clearMetres (s : State) : State := s.setMeter { s.meter with m := 0 }

/-- A settlement to the shift's vacant metres (R115). -/
def State.settleVacant (s : State) : State :=
  let s := s.clampMetres
  ((s.addOdometer s.meter.m).addVacant s.meter.m).clearMetres

/-- A settlement to the trip's hired metres (R115). -/
def State.settleHired (s : State) : State :=
  let s := s.clampMetres
  ((s.addOdometer s.meter.m).updateTrip (Trip.addMetres s.meter.m)).clearMetres

/-! ## Thresholds, contributions and drops (R117 to R119) -/

/-- The threshold of a kind under a tariff (R117). -/
def Tariff.threshold (t : Tariff) : ThresholdKind → Nat
  | .first => t.firstStep * (t.distance * t.time)
  | .regular => t.distance * t.time

/-- The tariff of a number of the set, 1 for the first. -/
def TariffSet.tariff (set : TariffSet) (number : Nat) : Option Tariff :=
  if number = 0 then none else set.tariffs[number - 1]?

/-- A tariff of the active bank. -/
def State.tariff (s : State) (number : Nat) : Option Tariff :=
  s.meter.active.bind (fun b => b.set.tariff number)

/-- The contribution of a full second (R118). -/
def Tariff.contribution (t : Tariff) (m : Nat) : Nat :=
  match t.mode with
  | .single => max (m * t.time) t.distance
  | .double => m * t.time + t.distance
  | .distance => m * t.time
  | .time => t.distance

/-- The contribution of a tick is added to P: that of a partial second when the mark is set, which it
clears, else that of a full second, which counts in the hired seconds (R119). -/
def Trip.accrue (p : Trip) (t : Tariff) (m : Nat) : Trip :=
  if p.part then { p with progress := p.progress + m * t.time, part := false }
  else { p with progress := p.progress + t.contribution m, seconds := sumUp p.seconds 1 }

/-- One drop (R119, steps 1 to 4), with the charged amount found (R130). -/
def Trip.drop (p : Trip) (t : Tariff) : Trip :=
  { p with
    progress := p.progress - t.threshold p.threshold
    drops := sumUp p.drops 1
    fare := min Config.fareMax (p.fare + t.drop)
    limit := p.limit || Config.fareMax < p.fare + t.drop
    threshold := .regular }.findCharged

/-- One drop with its METER notice (R119). -/
def State.takeDrop (s : State) (p : Trip) (t : Tariff) : State :=
  (s.setMeter { s.meter with trip := some (p.drop t) }).meterNotice .drop (p.drop t)

/-- The drop test, at most `fuel` drops (R119). -/
def State.dropLoop : Nat → State → State
  | 0, s => s
  | fuel + 1, s =>
    match s.meter.trip with
    | none => s
    | some p =>
      match s.tariff p.tariff with
      | none => s
      | some t =>
        if t.threshold p.threshold ≤ p.progress then (s.takeDrop p t).dropLoop fuel else s

/-- Drops that P can give at most: every drop takes a regular threshold or more. -/
def State.dropBound (s : State) : Nat :=
  match s.meter.trip with
  | none => 0
  | some p =>
    match s.tariff p.tariff with
    | none => 0
    | some t => p.progress / t.threshold .regular + 1

/-- The drop test after a contribution (R119). -/
def State.dropTest (s : State) : State := s.dropLoop s.dropBound

/-- The trip changes under its tariff in force. -/
def State.underTariff (s : State) (f : Tariff → Trip → Trip) : State :=
  match s.meter.trip with
  | none => s
  | some p =>
    match s.tariff p.tariff with
    | none => s
    | some t => s.setMeter { s.meter with trip := some (f t p) }

/-- The accrual of a tick (R119). -/
def State.accrue (s : State) : State :=
  (s.underTariff (fun t p => p.accrue t s.meter.m)).dropTest

/-! ## Tariff bands (R124 to R126) -/

/-- Minutes in a week. -/
def weekMinutes : Nat := 10080

/-- The least distance from the moment back to a point of the band, wrapping the week; none for a mask
that names no day (R124). -/
def Band.distance (b : Band) (moment : Nat) : Option Nat :=
  ([0, 1, 2, 3, 4, 5, 6].filter (fun d => b.days.getLsbD d)).foldl
    (fun best d =>
      let away := (moment + weekMinutes - (d * 1440 + b.start)) % weekMinutes
      match best with
      | none => some away
      | some least => some (min least away))
    none

/-- The band of least distance, the lower index of equals, with its distance (R124). -/
def nearestBand (moment : Nat) : List Band → Option (Nat × Band)
  | [] => none
  | b :: rest =>
    match b.distance moment, nearestBand moment rest with
    | none, other => other
    | some d, none => some (d, b)
    | some d, some (d', b') => if d ≤ d' then some (d, b) else some (d', b')

/-- The tariff a set selects at a minute of the week (R124). -/
def TariffSet.selectAt (set : TariffSet) (moment : Nat) : Nat :=
  match nearestBand moment set.bands with
  | some (_, b) => b.tariff
  | none => 1

/-- The present moment (R124). -/
def WallClock.minuteOfWeek (c : WallClock) : Nat := c.dayOfWeek * 1440 + c.second / 60

/-- The selection of R124 in a set; tariff 1 while the clock is unset. -/
def State.select (s : State) (set : TariffSet) : Nat :=
  match s.dcu.clock with
  | some c => set.selectAt c.minuteOfWeek
  | none => 1

/-- The trip after a tariff change: P is rescaled (R126). -/
def Trip.change (p : Trip) (old new : Tariff) (number : Nat) : Trip :=
  { p with
    progress := p.progress * new.threshold p.threshold / old.threshold p.threshold
    tariff := number
    lastTariff := number }

/-- A tariff change during a trip (R126). -/
def State.changeTariff (s : State) (p : Trip) (number : Nat) : State :=
  match s.tariff p.tariff, s.tariff number with
  | some old, some new =>
    let p' := p.change old new number
    (s.setMeter { s.meter with trip := some p' }).meterNotice .tariff p'
  | _, _ => s

/-- A band evaluation while HIRED (R125). -/
def State.evaluateBand (s : State) : State :=
  match s.meter.mode, s.meter.trip, s.meter.active with
  | .hired, some p, some bank =>
    if s.select bank.set = p.tariff then s else s.changeTariff p (s.select bank.set)
  | _, _, _ => s

/-! ## The seconds tick (R116, R196) -/

/-- The wall clock one second later (R196). -/
def WallClock.advance (c : WallClock) : WallClock :=
  if c.second < 86399 then { c with second := c.second + 1 }
  else { day := (c.day + 1) % 65536, dayOfWeek := (c.dayOfWeek + 1) % 7, second := 0 }

/-- The seconds tick at the wall clock (R196). -/
def State.tickClock (s : State) : State :=
  s.setDcu { s.dcu with clock := s.dcu.clock.map WallClock.advance }

/-- Allocation (R116, step 2). -/
def State.allocate (s : State) : State :=
  let m := s.meter.m
  let s := s.addOdometer m
  match s.meter.mode with
  | .offShift => s
  | .vacant => s.addVacant m
  | .hired => s.updateTrip (Trip.addMetres m)
  | .stopped => s.addVacant m

/-- The second of day is a multiple of 60 and the clock is set (R116, step 5). -/
def State.onMinute (s : State) : Bool :=
  match s.dcu.clock with
  | some c => c.second % 60 == 0
  | none => false

/-- The seconds tick at the Meter (R116). The partial mark is cleared by the accrual of R119, so by a tick while
HIRED alone: a mark that a STOP before the first tick leaves set stays set while STOPPED, though R117's table says
'cleared at the next tick': DEDUCED (log entry 34). -/
def State.tickMeter (s : State) : State :=
  let s := s.clampMetres.allocate
  let s := if s.meter.mode = .hired then s.accrue else s
  let s := s.clearMetres
  if s.onMinute then s.evaluateBand else s

/-- The seconds tick at the wall clock, the Meter and the Message Store (R116, R162). The Meter's notices come
before the Message Store's: DESIGN CHOICE (log entry 29). -/
def State.secondsTick (s : State) : State := s.tickClock.tickMeter.tickMessages

/-! ## Tariff banks (R121) -/

/-- An effective stamp is absent or reached (R121). -/
def State.effective (s : State) : Option WallStamp → Bool
  | none => true
  | some e =>
    match s.wallStamp with
    | some now => e.atOrBefore now
    | none => false

/-- The pending bank that a hire start now would make active (R121). -/
def State.swapDue (s : State) : Option Bank :=
  s.meter.pendingBank.filter (fun b => s.meter.ready && s.effective b.set.effective)

/-- The swap of a hire start (R121; the pending bank is absent after it, log entry 15). -/
def State.swapBank (s : State) : State :=
  match s.swapDue with
  | some b => s.setMeter { s.meter with active := some b, pendingBank := none, ready := false }
  | none => s

/-! ## Hire start (R122, R123) -/

/-- The surcharge amount of a class; 0 for class 0 (R123 step 6). -/
def TariffSet.surcharge (set : TariffSet) (cls : Nat) : Nat :=
  if cls = 0 then 0 else (set.surcharges[cls - 1]?).getD 0

/-- The trip a hire start creates (R123, steps 3 to 7). -/
def State.newTrip (s : State) (set : TariffSet) (bound : Option Job) : Trip :=
  let number := s.select set
  { job := bound.map (fun j => j.number)
    shift := (s.trips.current.map (fun r => r.number)).getD 0
    start := s.wallStamp
    tariff := number, firstTariff := number, lastTariff := number
    progress := 0, threshold := .first, drops := 0
    fare := ((set.tariff number).map (fun t => t.flagFall)).getD 0
    extras := 0, extrasCounts := List.replicate 8 0
    surcharge := set.surcharge (s.surchargeClass s.zone.zone)
    price := bound.bind (fun j => j.price)
    account := bound.bind (fun j => j.account)
    seconds := 0, metres := 0, part := true, stopStamp := none
    limit := false, clamp := false, resumed := false }

/-- The Job Book's share of a hire start (R123 step 7). -/
def State.bindIf (s : State) : Option Job → State
  | some j => s.bindJob j
  | none => s

/-- The hire start, the bank having been swapped (R123, steps 2 to 9). -/
def State.startHire (s : State) (set : TariffSet) (bound : Option Job) : State :=
  let s := s.settleVacant
  let s := s.setMeter { s.meter with trip := some (s.newTrip set bound) }
  let s := s.bindIf bound
  let s := s.setMeter { s.meter with mode := .hired }
  s.pruneOffers

/-- A meter request refused with STATE: in an open shift a sequence fault is counted (R111). -/
def State.refuseState (s : State) : Answer :=
  if s.meter.mode = .offShift then s.refuse .state else s.countFault.refuse .state

/-- The charged amount as a result field. -/
def State.chargedField (s : State) : List Byte := be 3 s.chargedSoFar

/-- The hire start and its response (R123). -/
def State.hireWith (s : State) (bound : Option Job) : Answer :=
  let s := s.swapBank
  match s.meter.active with
  | some bank =>
    let s := s.startHire bank.set bound
    s.doneWith [be 1 ((s.meter.trip.map (fun p => p.tariff)).getD 0), s.chargedField]
  | none => s.refuse .table

/-- No tariff set is in force, and none would be (R122 test 3). -/
def State.noTariff (s : State) : Bool := s.meter.active.isNone && s.swapDue.isNone

/-- HIRE: 0 BIND, 1 STREET (R122). -/
def State.hire (s : State) (form : Byte) : Answer :=
  if form ≠ 0 ∧ form ≠ 1 then s.refuse .argument
  else if s.meter.mode ≠ .vacant then s.refuseState
  else if s.meter.calibration = none ∨ s.noTariff = true then s.refuse .table
  else if form = 1 then s.hireWith none
  else
    match s.jobs.bindable with
    | some j => s.hireWith (some j)
    | none => s.refuseState

/-! ## Shift open and close (R112, R113) -/

/-- SHIFT OPEN (R112). -/
def State.openShift (s : State) (driver : Nat) : Answer :=
  if driver = 0 then s.refuse .argument
  else if s.meter.mode ≠ .offShift then s.refuseState
  else
    let s := (s.setMeter { s.meter with mode := .vacant }).startShift driver
    s.doneWith [be 2 s.trips.lastShift]

/-- SHIFT CLOSE (R113). -/
def State.closeShift (s : State) : Answer :=
  if s.meter.mode ≠ .vacant then s.refuseState
  else if s.emu.state = .arming ∨ s.emu.overtCall = true then s.refuse .emergency
  else if s.emu.covertCall then s.refuseState
  else if s.jobs.jobs ≠ [] then s.refuseState
  else (((s.setMeter { s.meter with mode := .offShift }).freezeShift).emptyOffers).doneWith []

/-! ## Stop, resume, extras and payment (R127 to R131) -/

/-- The effect of a STOP (R127). -/
def State.stopTrip (s : State) : State :=
  let m := s.clampMetres.meter.m
  let s := s.settleHired
  let s := (s.underTariff (fun t p => { p with progress := p.progress + m * t.time })).dropTest
  let s := s.updateTrip (fun p => { p with stopStamp := some s.now })
  s.setMeter { s.meter with mode := .stopped }

/-- STOP (R127). -/
def State.stop (s : State) : Answer :=
  if s.meter.mode ≠ .hired then s.refuseState
  else
    let s := s.stopTrip
    s.doneWith [s.chargedField]

/-- The resume grace of the active bank, 0 with none (R128). -/
def State.resumeGrace (s : State) : Nat := (s.meter.active.map (fun b => b.set.grace)).getD 0

/-- The instant from which a RESUME is refused (R128). -/
def State.resumeLimit (s : State) : Nat :=
  (s.meter.trip.bind (fun p => p.stopStamp)).getD 0 + 1000 * s.resumeGrace

/-- The effect of a RESUME (R128). -/
def State.resumeTrip (s : State) : State :=
  let s := s.settleVacant
  let s := s.updateTrip (fun p => { p with part := true, resumed := true })
  s.setMeter { s.meter with mode := .hired }

/-- RESUME (R128). -/
def State.resume (s : State) : Answer :=
  if s.meter.mode ≠ .stopped then s.refuseState
  else if s.resumeGrace = 0 then s.refuseState
  else if s.reached s.resumeLimit then s.refuseState
  else
    let s := s.resumeTrip
    s.doneWith [s.chargedField]

/-- The trip after an EXTRA (R129), with the charged amount found (R130). -/
def Trip.addExtra (p : Trip) (index amount : Nat) : Trip :=
  { p with
    extrasCounts := p.extrasCounts.set index ((p.extrasCounts[index]?).getD 0 + 1)
    extras := min Config.fareMax (p.extras + amount)
    limit := p.limit || Config.fareMax < p.extras + amount }.findCharged

/-- The rate of an extra in the active bank. -/
def State.extraRate (s : State) (index : Nat) : ExtraRate :=
  (s.meter.active.bind (fun b => b.set.extras[index]?)).getD { amount := 0, maximum := 0 }

/-- EXTRA (R129). -/
def State.extra (s : State) (index : Nat) : Answer :=
  if 7 < index then s.refuse .argument
  else if s.meter.mode ≠ .hired ∧ s.meter.mode ≠ .stopped then s.refuseState
  else
    match s.meter.trip with
    | none => s.refuseState
    | some p =>
      if (s.extraRate index).maximum ≤ (p.extrasCounts[index]?).getD 0 then s.refuse .full
      else
        let s := s.setMeter
          { s.meter with trip := some (p.addExtra index (s.extraRate index).amount) }
        s.doneWith [s.chargedField]

/-- The effect of a PAY on a trip (R131, steps 1 to 5). -/
def State.payTrip (s : State) (p : Trip) (form : PayForm) : State :=
  let s := (s.setMeter { s.meter with mode := .vacant }).closeTrip p form
  let s := s.tripClosed p.job
  s.setMeter { s.meter with trip := none }

/-- PAY (R131). -/
def State.pay (s : State) (form : Byte) : Answer :=
  match PayForm.ofRequest form with
  | none => s.refuse .argument
  | some f =>
    if s.meter.mode ≠ .stopped then s.refuseState
    else
      match s.meter.trip with
      | none => s.refuseState
      | some p =>
        if f = .account ∧ p.account = none then s.refuse .argument
        else (s.payTrip p f).doneWith [be 3 p.charged, be 4 s.trips.sequence]

/-! ## TIME SET (R197) -/

/-- A TIME SET is taken (R197). -/
def State.takeTimeSet (s : State) (c : WallClock) : State :=
  if c.inRange then
    ((s.setDcu { s.dcu with clock := some c }).clockSetNotice c).evaluateBand
  else s

end Sys2Proof.Machine
end

