-- ==== Sys2Proof/Machine/ReadOps.lean ====
section
/-!
DEFINITION. The reads of the cab port: what each record selector returns (R207 and the rules it names),
in the layouts of R209 and section 13.4 (log entries 13 and 14).
-/

namespace Sys2Proof.Machine

/-! ## Times, lists and texts in a result -/

/-- The largest time in whole seconds (R209). -/
def secondsMax : Nat := 16777215

/-- The time left to a deadline in whole seconds, rounded down (R89, R133). -/
def State.leftDown (s : State) (deadline : Nat) : Nat := min secondsMax ((deadline - s.now) / 1000)

/-- The time left to a deadline in whole seconds, rounded up, 0 when it is reached (R107, R184). -/
def State.leftUp (s : State) (deadline : Nat) : Nat :=
  min secondsMax ((deadline - s.now + 999) / 1000)

/-- An item of a list: its fields, and a text with its truncated flag where the item has one. -/
structure ListItem where
  fields : List Byte
  text : Option Text

/-- The bytes of an item whose text is cut to a number of positions (R209). -/
def ListItem.bytes (i : ListItem) (t : Text) (shown : Nat) : List Byte :=
  i.fields ++ be 1 (t.positions.take shown).length ++ (t.positions.take shown).map DisplayPos.byte
    ++ [flagByte t.truncated]

/-- The items returned in `room` bytes: each whole, but that a text is cut to the room left, and an item
whose text is cut is the last (R207, R209). -/
def packItems : Nat → List ListItem → List (List Byte)
  | _, [] => []
  | room, i :: rest =>
    match i.text with
    | none => if i.fields.length ≤ room then i.fields :: packItems (room - i.fields.length) rest else []
    | some t =>
      if i.fields.length + 2 ≤ room then
        let shown := room - (i.fields.length + 2)
        let bytes := i.bytes t shown
        if shown < t.positions.length then [bytes] else bytes :: packItems (room - bytes.length) rest
      else []

/-- A list in a RESPONSE after some fields: the number of items held, further counts, the number
returned, and the items (R209). -/
def listFields (items : List ListItem) (counts : List (List Byte)) : List (List Byte) :=
  let room := Config.resultMax - 2 - counts.flatten.length
  let shown := packItems room items
  be 1 items.length :: counts ++ [be 1 shown.length] ++ shown

/-- A text read: number, first position, count returned, text length, truncated flag, positions
(section 13.4). -/
def textFields (number first : Nat) (t : Text) : List (List Byte) :=
  let shown := (t.positions.drop first).take Config.textReadMax
  [be 2 number, be 1 first, be 1 shown.length, be 1 t.positions.length, [flagByte t.truncated],
   shown.map DisplayPos.byte]

/-! ## Offer table (R89) -/

/-- The deadline an entry waits for. -/
def OfferEntry.waitsFor (e : OfferEntry) : Nat := if e.state = .offered then e.decision else e.lapse

/-- An entry in the offer table read. -/
def State.offerItem (s : State) (e : OfferEntry) : ListItem :=
  { fields := be 2 e.number ++ be 1 e.kind.code ++ be 1 e.state.code ++ be 1 e.zone
      ++ [flagByte e.reach] ++ [e.required] ++ optional 3 e.price ++ optionalStamp e.pickupTime
      ++ be 3 (s.leftDown e.waitsFor)
    text := some e.summary }

/-- READ, offer table. -/
def State.readOfferTable (s : State) : Answer :=
  s.doneWith (listFields (s.offers.table.map s.offerItem) [])

/-- READ, offer table, with offer number and first position. -/
def State.readOfferText (s : State) (number first : Nat) : Answer :=
  if 79 < first then s.refuse .argument
  else
    match s.offers.find number with
    | some e => s.doneWith (textFields number first e.summary)
    | none => s.refuse .state

/-! ## Job book (R107) -/

/-- The time left until a NO-SHOW for an ARRIVED job would pass. -/
def State.noShowLeft (s : State) (j : Job) : Option Nat :=
  if j.state = .arrived then some (s.leftUp (s.noShowTime j)) else none

/-- A job in the job book read. -/
def State.jobItem (s : State) (active : Bool) (j : Job) : ListItem :=
  { fields := be 2 j.number ++ be 1 j.source.code ++ optional 2 j.offer ++ be 1 j.kind.code
      ++ be 1 j.zone ++ be 1 (placeCode active) ++ be 1 j.state.code ++ optional 3 j.account
      ++ optional 3 j.price ++ optionalStamp j.pickupTime
      ++ be 3 (min secondsMax ((s.now - j.placed) / 1000)) ++ optional 3 (s.noShowLeft j)
    text := some j.text }

/-- READ, job book. -/
def State.readJobBook (s : State) : Answer :=
  s.doneWith
    (listFields (s.jobs.active.toList.map (s.jobItem true) ++ s.jobs.queued.map (s.jobItem false)) [])

/-- READ, job book, with job number and first position. -/
def State.readJobText (s : State) (number first : Nat) : Answer :=
  if 119 < first then s.refuse .argument
  else
    match s.jobs.jobs.find? (fun j => j.number == number) with
    | some j => s.doneWith (textFields number first j.text)
    | none => s.refuse .state

/-! ## Meter (R133) -/

/-- The threshold in force (R117). -/
def State.thresholdInForce (s : State) (p : Trip) : Nat :=
  match s.tariff p.tariff with
  | some t => t.threshold p.threshold
  | none => 0

/-- The time left until a RESUME would be refused, 0 when the meter is not STOPPED. -/
def State.resumeLeft (s : State) : Nat :=
  if s.meter.mode = .stopped then s.leftDown s.resumeLimit else 0

/-- The fields of R117, then the threshold, the charged amount and the time left. -/
def State.tripFields (s : State) (p : Trip) : List (List Byte) :=
  [optional 2 p.job, be 2 p.shift, optionalStamp p.start, be 1 p.tariff, be 1 p.firstTariff,
   be 1 p.lastTariff, be 4 p.progress, be 1 p.threshold.code, be 4 p.drops, be 3 p.fare,
   be 3 p.extras, (p.extrasCounts.map (be 1)).flatten, be 3 p.surcharge, optional 3 p.price,
   optional 3 p.account, be 4 p.seconds, be 4 p.metres, [flagByte p.part], optional 6 p.stopStamp,
   be 1 p.flags, be 4 (s.thresholdInForce p), be 3 p.charged, be 3 s.resumeLeft]

/-- The calibration, the residue, the bank versions and the ready flag. -/
def State.bankFields (s : State) : List (List Byte) :=
  [match s.meter.calibration with
    | some c => 1 :: be 2 c.k ++ be 1 c.vmax
    | none => [0, 0, 0, 0],
   be 2 s.meter.residue, optional 2 (s.meter.active.map (fun b => b.version)),
   optional 2 (s.meter.pendingBank.map (fun b => b.version)), [flagByte s.meter.ready]]

/-- READ, meter. -/
def State.readMeter (s : State) : Answer :=
  s.doneWith
    (be 1 s.meter.mode.code
      :: (match s.meter.trip with
          | some p => s.tripFields p
          | none => [])
      ++ s.bankFields)

/-! ## Trip and shift (R151) -/

/-- The record a trip read names: 0 for the newest. -/
def Trips.named (t : Trips) (sequence : Nat) : Option HeldTrip :=
  if sequence = 0 then t.newestOf t.held else t.find sequence

/-- The fields of R138, with the number of UNREPORTED records. -/
def State.tripRecordFields (s : State) (h : HeldTrip) : List (List Byte) :=
  let r := h.record
  [be 4 r.sequence, optional 2 r.job, be 2 r.shift, optionalStamp r.start, be 4 r.seconds,
   be 4 r.metres, be 1 r.firstTariff, be 1 r.lastTariff, be 4 r.drops, be 3 r.fare, be 3 r.extras,
   be 3 r.surcharge, optional 3 r.price, be 3 r.charged, be 1 r.form.code, optional 3 r.account,
   be 1 r.flags, [flagByte h.reported], be 1 s.trips.unreported.length]

/-- READ, trip. -/
def State.readTrip (s : State) (sequence : Nat) : Answer :=
  match s.trips.named sequence with
  | some h => s.doneWith (s.tripRecordFields h)
  | none => s.refuse .state

/-- The fields of R145, with the odometer and the trip sequence counter. -/
def State.shiftFields (s : State) (r : ShiftRecord) : List (List Byte) :=
  [be 2 r.number, be 2 r.driver, optionalStamp r.opened, optionalStamp r.closed, be 2 r.trips,
   be 2 r.fixedTrips, be 2 r.interrupted, be 4 r.hiredMetres, be 4 r.hiredSeconds,
   be 4 r.vacantMetres, be 4 r.fareSum, be 4 r.extrasSum, be 4 r.surchargeSum, be 4 r.chargedSum,
   be 4 r.cashSum, be 4 r.cardSum, be 4 r.accountSum, be 4 r.unsettledSum, be 2 r.faults,
   be 4 r.clampedMetres, optional 4 r.firstTrip, optional 4 r.lastTrip, be 2 r.unreportedLost,
   be 4 s.trips.odometer, be 4 s.trips.sequence]

/-- READ, shift: 0 CURRENT, 1 PREVIOUS. -/
def State.readShift (s : State) (which : Nat) : Answer :=
  if 1 < which then s.refuse .argument
  else
    match s.trips.selected which with
    | some r => s.doneWith (s.shiftFields r)
    | none => s.refuse .state

/-! ## Messages (R168) -/

/-- The remaining lifetime in whole seconds. -/
def Lifetime.left (l : Lifetime) : Nat := l.minutes * 60 - l.seconds

/-- The fields of a message in the list. -/
def Message.fields (x : Message) : List Byte :=
  be 2 x.number ++ be 1 x.cls.code ++ optional 2 x.job ++ be 1 x.state.code ++ optional 1 x.group
    ++ optionalStamp x.received ++ optional 3 (x.life.map Lifetime.left)
    ++ be 1 x.text.positions.length ++ [flagByte x.text.truncated]

/-- READ, message list: held, UNREAD, returned, items. -/
def State.readMessageList (s : State) : Answer :=
  s.doneWith
    (listFields (s.msgs.store.map (fun x => { fields := x.fields, text := none }))
      [be 1 s.msgs.unread])

/-- The phrase numbers of a message's reply group in the committed phrase book. -/
def State.replyPhrases (s : State) (x : Message) : List Nat :=
  match x.group, s.book with
  | some group, some book => groupMembers book group
  | _, _ => []

/-- A list of one-byte items: the members of a reply group, or the characters of a phrase, which R168 names
and no rule calls a list. Both follow the two count bytes of a list, held and returned: DESIGN CHOICE (log
entry 13). -/
def byteList (items : List (List Byte)) : List (List Byte) :=
  listFields (items.map (fun b => { fields := b, text := none })) []

/-- READ, one message, FIELDS. -/
def State.readMessageFields (s : State) (number : Nat) : Answer :=
  match s.msgs.find number with
  | some x => s.doneWith (x.fields :: byteList ((s.replyPhrases x).map (be 1)))
  | none => s.refuse .state

/-- READ, one message, TEXT. -/
def State.readMessageText (s : State) (number first : Nat) : Answer :=
  if 239 < first then s.refuse .argument
  else
    match s.msgs.find number with
    | some x => s.doneWith (textFields number first x.text)
    | none => s.refuse .state

/-- The characters of a driver phrase, none while no book is committed. -/
def State.driverPhrase (s : State) (phrase : Nat) : List (BitVec 7) :=
  match s.book with
  | some book => phraseChars book phrase
  | none => []

/-- READ, one message, PHRASE. -/
def State.readMessagePhrase (s : State) (number phrase : Nat) : Answer :=
  if !isDriverPhrase phrase then s.refuse .argument
  else if (s.msgs.find number).isSome then
    s.doneWith (byteList ((s.driverPhrase phrase).map (fun c => [c.setWidth 8])))
  else s.refuse .state

/-! ## Link, emergency and counters (R29, R184, R207) -/

/-- READ, link: state and phase, the current entry with its channel, site and role, the locked site,
the number of entries, site mismatches and hunt passes. -/
def State.readLink (s : State) : Answer :=
  let c := s.currentChannel
  s.doneWith
    [be 1 s.link.mode.code,
     optional 1 (if s.link.mode = .hunting then some s.link.phase.code else none),
     optional 1 (c.map (fun _ => s.link.entry)),
     optional 2 (c.map (fun c => c.number)),
     optional 1 (c.map (fun c => c.site.getD 0xFF)),
     optional 1 (c.map (fun c => c.role.code)),
     optional 1 (if s.link.mode = .locked then s.link.lockedSite else none),
     be 1 s.channels.length, be 2 s.link.siteMismatches, be 2 s.link.huntPasses]

/-- The fields of the emergency record of an overt call (R184). -/
def State.callFields (s : State) : List (List Byte) :=
  [be 1 s.emu.state.code, be 2 s.emu.episode, be 2 s.emu.beacons, be 2 s.emu.presses,
   be 2 s.emu.cancels, be 3 (s.leftUp (s.emu.beacon.getD 0))]

/-- READ, emergency: a covert call reads as QUIET (R184). -/
def State.readEmergency (s : State) : Answer :=
  match s.emu.state with
  | .quiet => s.doneWith [be 1 EmergencyState.quiet.code]
  | .arming =>
    s.doneWith [be 1 EmergencyState.arming.code, be 3 (s.leftUp (s.emu.grace.getD 0))]
  | .active =>
    if s.emu.covert then s.doneWith [be 1 EmergencyState.quiet.code] else s.doneWith s.callFields
  | .acknowledged =>
    if s.emu.covert then s.doneWith [be 1 EmergencyState.quiet.code] else s.doneWith s.callFields

/-- READ, counters: the sixteen counters, requests overrun, notices lost. -/
def State.readCounters (s : State) : Answer :=
  s.doneWith (s.counters.map (be 2) ++ [be 2 s.cab.requestsOverrun, be 2 s.cab.noticesLost])

end Sys2Proof.Machine
end

