-- ==== Sys2Proof/WellFormed.lean ====
section
/-!
DEFINITION. The checks on a command as syntax: which operands the spec's formats admit. Every other
operand is read and tested by the block that takes the command.
-/

namespace Sys2Proof

/-- R203, section 13.4: the request kinds are 0x01 to 0x16. -/
def isRequestKind (kind : Byte) : Bool :=
  1 ≤ kind.toNat && kind.toNat ≤ 0x16

/-- R202: a FRAME refusal names a fault of a frame: a length byte over 64, or a wrong body length of a
known request kind. -/
def FrameFault.wellFormed : FrameFault → Bool
  | .lengthOver length => Config.frameBodyMax < length.toNat
  | .check => true
  | .bodyLength kind => isRequestKind kind

/-- A command whose operands the formats admit: a cab-port LOAD DATA carries 1 to 62 data bytes
(section 13.4), an UNKNOWN_REQUEST names a kind that is no request kind (R202), and a FRAME_REFUSED
names a fault (R202). -/
def Instr.wellFormed : Instr → Bool
  | .loadData _ _ (.cab arg) => 1 ≤ arg.data.length && arg.data.length ≤ 62
  | .loadData _ _ (.air _) => true
  | .unknownRequest _ kind => !isRequestKind kind
  | .frameRefused _ fault => fault.wellFormed
  | .deliveryDropped .. | .siteBeacon .. | .timeSet .. | .offer .. | .withdraw .. | .award .. | .assign ..
  | .jobCancel .. | .message .. | .emergencyAck .. | .standDown .. | .tripRecall .. | .totalsQuery ..
  | .statusQueryIdentity .. | .statusQueryVersions .. | .statusQueryCounters .. | .statusQuerySnapshot ..
  | .bar .. | .reinstate .. | .restart .. | .loadOpen .. | .loadCommit .. | .settleExpiry .. | .dwellExpiry ..
  | .silenceExpiry .. | .cdFall .. | .cdRise .. | .clearTimerExpiry .. | .backoffEnd ..
  | .transmissionComplete .. | .bidRelease .. | .bidDeadline .. | .decisionDeadline .. | .lapseTime ..
  | .position .. | .accept .. | .decline .. | .arrived .. | .noShow .. | .shiftOpen .. | .shiftClose ..
  | .hire .. | .stop .. | .resume .. | .pay .. | .extra .. | .readOfferTable .. | .readOfferText ..
  | .readJobBook .. | .readJobText .. | .readMeter .. | .readTrip .. | .readShift .. | .readMessageList ..
  | .readMessageFields .. | .readMessageText .. | .readMessagePhrase .. | .readLink .. | .readEmergency ..
  | .readCounters .. | .markRead .. | .reply .. | .send .. | .emergencyRequest .. | .cancel .. | .noticeMask ..
  | .assemblyTimeout .. | .frameSent .. | .wheelPulse .. | .secondsTick .. | .messageExpiry .. | .emergPress ..
  | .covertPress .. | .graceExpiry .. | .beaconDue .. | .powerOn | .vbakFall | .arxdByteReceived ..
  | .cabPortByteReceived .. | .lossOfMainPower => true

end Sys2Proof
end

