-- ==== Sys2Proof/Machine/CabOps.lean ====
section
/-!
DEFINITION. The Cab Port Controller (chapter 12): POSITION and NOTICE MASK, the owner of each request
kind, body lengths, and frame assembly byte by byte.
-/

namespace Sys2Proof.Machine

/-! ## POSITION (R59 to R61, R64) and NOTICE MASK (R206) -/

/-- The contents of a POSITION response (R64). -/
def State.positionFields (s : State) (queued : Bool) : List (List Byte) :=
  [be 1 s.zone.zone, [flagByte (s.rankFlag s.zone.zone)], be 1 (s.surchargeClass s.zone.zone),
   [flagByte s.zone.stale], [flagByte queued]]

/-- POSITION (R59 to R61): the no-fix flag is set when it is not 0. -/
def State.position (s : State) (row col noFix : Byte) : Answer :=
  if noFix ≠ 0 then s.takeNoFix.doneWith (s.takeNoFix.positionFields false)
  else if 63 < row.toNat ∨ 63 < col.toNat then s.refuse .argument
  else
    let j := s.takeFix { row := row.toNat, col := col.toNat }
    j.state.doneWith (j.state.positionFields j.joined)

/-- NOTICE MASK (R206); bits 10 to 15 are not read (section 13.4). -/
def State.noticeMask (s : State) (enables : Half) : Answer :=
  (s.setCab { s.cab with mask := enables.setWidth 10 }).doneWith [be 2 (enables.setWidth 10).toNat]

/-! ## The owner of a request (R203, section 13.4) -/

/-- The least and greatest body lengths of a request kind (section 13.4). -/
def requestBounds (kind : Nat) : Nat × Nat :=
  match kind with
  | 0x01 => (3, 3)
  | 0x02 => (2, 2)
  | 0x03 => (2, 2)
  | 0x04 => (2, 2)
  | 0x05 => (2, 2)
  | 0x06 => (1, 1)
  | 0x07 => (0, 0)
  | 0x08 => (0, 0)
  | 0x09 => (1, 1)
  | 0x0A => (1, 1)
  | 0x0B => (2, 2)
  | 0x0C => (0, 0)
  | 0x0D => (1, 5)
  | 0x0E => (2, 2)
  | 0x0F => (3, 3)
  | 0x10 => (1, 1)
  | 0x11 => (0, 0)
  | 0x12 => (0, 0)
  | 0x13 => (2, 2)
  | 0x14 => (3, 3)
  | 0x15 => (3, 64)
  | _ => (2, 2)

/-- A READ by its selector (R207): any other selector, and a body length that is not the selector's, is
answered ARGUMENT. -/
def State.read (s : State) (body : List Byte) : Answer :=
  let number := natAt body 1 2
  match natAt body 0 1, body.length with
  | 0, 1 => s.readOfferTable
  | 0, 4 => s.readOfferText number (natAt body 3 1)
  | 1, 1 => s.readJobBook
  | 1, 4 => s.readJobText number (natAt body 3 1)
  | 2, 1 => s.readMeter
  | 3, 5 => s.readTrip (natAt body 1 4)
  | 4, 2 => s.readShift (natAt body 1 1)
  | 5, 1 => s.readMessageList
  | 6, 5 =>
    match natAt body 3 1 with
    | 0 => s.readMessageFields number
    | 1 => s.readMessageText number (natAt body 4 1)
    | 2 => s.readMessagePhrase number (natAt body 4 1)
    | _ => s.refuse .argument
  | 7, 1 => s.readLink
  | 8, 1 => s.readEmergency
  | 9, 1 => s.readCounters
  | _, _ => s.refuse .argument

/-- The owner of a request kind takes its body (R203). -/
def State.serve (s : State) (kind : Nat) (body : List Byte) : Answer :=
  let number := natAt body 0 2
  match kind with
  | 0x01 => s.position (byteAt body 0) (byteAt body 1) (byteAt body 2)
  | 0x02 => s.accept number
  | 0x03 => s.decline number
  | 0x04 => s.arrived number
  | 0x05 => s.noShow number
  | 0x06 => s.hire (byteAt body 0)
  | 0x07 => s.stop
  | 0x08 => s.resume
  | 0x09 => s.pay (byteAt body 0)
  | 0x0A => s.extra (natAt body 0 1)
  | 0x0B => s.openShift number
  | 0x0C => s.closeShift
  | 0x0D => s.read body
  | 0x0E => s.markRead number
  | 0x0F => s.reply number (natAt body 2 1)
  | 0x10 => s.send (natAt body 0 1)
  | 0x11 => s.emergencyRequest
  | 0x12 => s.cancel
  | 0x13 => s.noticeMask (BitVec.ofNat 16 number)
  | 0x14 => s.cabLoadOpen (loadOpenArg body)
  | 0x15 => s.cabLoadData (loadDataArg body)
  | _ => s.cabLoadCommit (BitVec.ofNat 16 number)

/-! ## Frames refused (R202) -/

/-- A frame is refused with one RESPONSE, the overrun rule applying (R202, R205). -/
def State.refuseFrame (s : State) (kind : Byte) (code : RespCode) : State :=
  s.answer kind (fun s => s.refuse code)

/-- Frame assembly changes (R201). -/
def State.setAssembly (s : State) (a : Assembly) : State := s.setCab { s.cab with assembly := a }

/-- A length byte over 64: the frame is refused, and assembly goes to DISCARD (R201, R202). -/
def State.refuseLength (s : State) : State := (s.setAssembly (.discard s.now)).refuseFrame 0 .frame

/-- A frame is refused at a byte (R202). -/
def State.refuseAt (s : State) : FrameFault → State
  | .lengthOver _ => s.refuseLength
  | .check => s.toHunt.refuseFrame 0 .frame
  | .bodyLength kind => s.toHunt.refuseFrame kind .frame

/-- 20 ms have passed with no byte received (R201, R202). -/
def State.assemblyTimeout (s : State) : State :=
  match s.cab.assembly with
  | .hunt => s
  | .frame _ last =>
    if s.reached (last + Config.frameGap) then s.toHunt.refuseFrame 0 .frame else s
  | .discard last => if s.reached (last + Config.frameGap) then s.toHunt else s

/-! ## Bytes on CRXD (R201) -/

/-- The sum of a frame's bytes after the start byte is a multiple of 256 (R201). -/
def checkHolds (got : List Byte) : Bool := got.foldl (· + ·) 0 == 0

/-- A body length suits a request kind (R202). -/
def suits (kind length : Nat) : Bool :=
  (requestBounds kind).1 ≤ length && length ≤ (requestBounds kind).2

/-- A complete frame, given as length, kind, body and check, is tested and taken (R202, R203). -/
def State.takeFrame (s : State) (got : List Byte) : State :=
  let kind := byteAt got 1
  let body := (got.drop 2).dropLast
  if !checkHolds got then s.refuseAt .check
  else if !isRequestKind kind then s.toHunt.refuseFrame kind .unknown
  else if !suits kind.toNat body.length then s.refuseAt (.bodyLength kind)
  else s.toHunt.answer kind (fun s => s.serve kind.toNat body)

/-- A byte on CRXD, any part-frame whose 20 ms have passed having been abandoned (R201). -/
def State.assembleByte (s : State) (b : Byte) : State :=
  match s.cab.assembly with
  | .hunt => if b = 0x7E then s.setAssembly (.frame [] s.now) else s
  | .discard _ => s.setAssembly (.discard s.now)
  | .frame got _ =>
    if got = [] ∧ Config.frameBodyMax < b.toNat then s.refuseLength
    else if got.length = natAt (got ++ [b]) 0 1 + 2 then s.takeFrame (got ++ [b])
    else s.setAssembly (.frame (got ++ [b]) s.now)

/-- A byte on CRXD (R201): one that comes when 20 ms have passed with no byte finds assembly abandoned, the
part-frame refused and the state HUNT. -/
def State.cabByte (s : State) (b : Byte) : State := s.assemblyTimeout.assembleByte b

/-! ## Bytes on CTXD (R204) -/

/-- The frame on CTXD has left; the next waiting frame begins to leave (R204). -/
def State.frameSent (s : State) : State :=
  match s.cab.sending with
  | some _ => s.setCab (CabPort.pump { s.cab with sending := none })
  | none => s

end Sys2Proof.Machine
end

