-- ==== Sys2Proof/Machine/Framing.lean ====
section
/-!
DEFINITION. The meanings of the framing events of the cab port (sections 12.1 and 12.3).
-/

namespace Sys2Proof.Machine

/-- UNKNOWN_REQUEST (R202). -/
def execUnknownRequest (t : Stamp) (kind : Byte) (s : State) : Host.Outcome State Fault Refusal :=
  .next (s.event t fun s => s.toHunt.refuseFrame kind .unknown)

/-- FRAME_REFUSED (R202). -/
def execFrameRefused (t : Stamp) (fault : FrameFault) (s : State) : Host.Outcome State Fault Refusal :=
  .next (s.event t fun s => s.refuseAt fault)

/-- ASSEMBLY_TIMEOUT (R201, R202). -/
def execAssemblyTimeout (t : Stamp) (s : State) : Host.Outcome State Fault Refusal :=
  .next (s.event t State.assemblyTimeout)

/-- FRAME_SENT (R204). -/
def execFrameSent (t : Stamp) (s : State) : Host.Outcome State Fault Refusal :=
  .next (s.event t State.frameSent)

/-- CAB_PORT_BYTE_RECEIVED (R201): the byte may also complete or refuse a frame (log entry 5). -/
def execCabPortByteReceived (t : Stamp) (calen : Bool) (byte : Byte) (s : State) :
    Host.Outcome State Fault Refusal :=
  .next (s.event t fun s => (s.setCalen calen).cabByte byte)

end Sys2Proof.Machine
end

