-- ==== Sys2Proof/Machine/LinkTimers.lean ====
section
/-!
DEFINITION. The meanings of the link timers (chapter 2). Before its deadline an expiry has no
effect but the timer's reading (log entry 3).
-/

namespace Sys2Proof.Machine

/-- SETTLE_EXPIRY (R21). -/
def execSettleExpiry (t : Stamp) (s : State) : Host.Outcome State Fault Refusal :=
  .next (s.event t State.settleExpiry)

/-- DWELL_EXPIRY (R23). -/
def execDwellExpiry (t : Stamp) (s : State) : Host.Outcome State Fault Refusal :=
  .next (s.event t State.dwellExpiry)

/-- SILENCE_EXPIRY (R24). -/
def execSilenceExpiry (t : Stamp) (s : State) : Host.Outcome State Fault Refusal :=
  .next (s.event t State.silenceExpiry)

end Sys2Proof.Machine
end

