-- ==== Sys2Proof/Machine/AirOps.lean ====
section
/-!
DEFINITION. The Air Receiver's operations (chapter 1): deliveries, the acceptance tests, the address
match and the kind tests; and the SITE BEACON of the Link Controller.
-/

namespace Sys2Proof.Machine

/-! ## Deliveries (R1, R2) -/

/-- A delivery with further bytes: the first 104 are stored, all are counted (R1). -/
def Delivery.append (d : Delivery) (bytes : List Byte) (now : Nat) : Delivery :=
  { bytes := (d.bytes ++ bytes).take Config.deliveryMax, size := d.size + bytes.length, last := now }

/-- A delivery with no byte yet. -/
def Delivery.empty : Delivery := { bytes := [], size := 0, last := 0 }

/-- The instant at which a delivery closes if no further byte comes (R1). -/
def Delivery.closes (d : Delivery) : Nat := d.last + Config.deliveryGap

/-- The open delivery, once 5 ms have passed with no further byte (R1). -/
def State.overdue (s : State) : Option Delivery := s.air.rx.filter (fun d => s.reached d.closes)

/-- A byte on ARXD, any delivery overdue having been taken: it joins the open delivery, or opens one (R1,
R2). -/
def State.airByte (s : State) (b : Byte) : State :=
  if s.ptt then s
  else s.setAir { s.air with rx := some ((s.air.rx.getD Delivery.empty).append [b] s.now) }

/-- The delivery that closes now, with the bytes a telegram command brings (log entry 4): none while
PTT is asserted (R2). With no bytes it is the overdue one (R1); bytes join the open delivery or open one, and
none closes with them while an earlier delivery, overdue, is still to be taken. -/
def State.closing (s : State) (rx : List Byte) : Option Delivery :=
  if s.ptt then none
  else if rx = [] then s.overdue
  else if s.overdue.isSome then none
  else some ((s.air.rx.getD Delivery.empty).append rx s.now)

/-! ## Acceptance (R3 to R6) -/

/-- The bytes a CRC is computed over: all but the last two (R4). -/
def Delivery.checked (d : Delivery) : List Byte := d.bytes.take (d.size - 2)

/-- The CRC a delivery carries (R4). -/
def Delivery.carried (d : Delivery) : Nat := natAt d.bytes (d.size - 2) 2

/-- The body a delivery carries. -/
def Delivery.body (d : Delivery) : List Byte := d.checked.drop 6

/-- The counter of the first acceptance test that fails; none for an accepted delivery (R3). -/
def State.acceptanceFault (s : State) (d : Delivery) : Option RxCounter :=
  let h := Header.read d.bytes
  if d.size < 8 ∨ Config.deliveryMax < d.size then some .lengthErrors
  else if (crc d.checked).toNat ≠ d.carried then some .crcErrors
  else if h.length ≠ d.size - 8 ∨ Config.bodyMax < h.length then some .lengthErrors
  else if h.uplink then some .uplinkHeard
  else if s.dcu.address = none ∨ h.fleet ≠ s.address.fleet then some .foreignFleet
  else none

/-! ## Address match (R8 to R10) -/

/-- The match class of an accepted telegram, if it matches (R8). -/
def State.matchClass (s : State) (h : Header) : Option MatchClass :=
  match h.addressKind with
  | 0 => if h.address ≠ 0 ∧ h.address = s.address.cab then some .cab else none
  | 1 => if h.address ≠ 0 ∧ s.address.groups.contains h.address = true then some .group else none
  | 2 =>
    if h.address = 0 ∨ s.zone.zone = 0 then none
    else if h.address = s.zone.zone then some .zone
    else if (s.neighbours s.zone.zone).contains h.address then some .neighbour
    else none
  | _ => some .all

/-! ## Kind tests (R11 to R13) -/

/-- What becomes of an accepted telegram: dropped into a counter, or handed on (R8 to R14). -/
inductive Fate where
  | dropped (counter : RxCounter)
  | handed (telegram : Telegram)
  deriving DecidableEq, Repr

/-- The address match and the kind tests of an accepted telegram (R8, R11 to R14). -/
def State.fate (s : State) (h : Header) (body : List Byte) : Fate :=
  match s.matchClass h with
  | none => .dropped .passedBy
  | some cls =>
    match DownKind.ofCode h.kind with
    | none => .dropped .unknownKind
    | some kind =>
      if kind.fits body.length = false then .dropped .lengthErrors
      else if cls = .neighbour ∧ kind ≠ .offer then .dropped .passedBy
      else if s.dcu.barred = true ∧ kind.passesBar = false then .dropped .barredDiscards
      else
        .handed
          { fleet := h.fleet, addressKind := h.addressKind, address := h.address, site := h.site
            kind := kind, body := body, cls := cls }

/-! ## Taking a delivery -/

/-- One receive counter rises by one (R15). -/
def RxCounters.count (c : RxCounters) : RxCounter → RxCounters
  | .crcErrors => { c with crcErrors := countUp c.crcErrors }
  | .lengthErrors => { c with lengthErrors := countUp c.lengthErrors }
  | .uplinkHeard => { c with uplinkHeard := countUp c.uplinkHeard }
  | .foreignFleet => { c with foreignFleet := countUp c.foreignFleet }
  | .passedBy => { c with passedBy := countUp c.passedBy }
  | .unknownKind => { c with unknownKind := countUp c.unknownKind }
  | .barredDiscards => { c with barredDiscards := countUp c.barredDiscards }

/-- A delivery is dropped into a counter (R3). -/
def State.countRx (s : State) (c : RxCounter) : State :=
  s.setAir { s.air with counters := s.air.counters.count c }

/-- The receive buffer is free again (R1). -/
def State.closeRx (s : State) : State := s.setAir { s.air with rx := none }

/-- A delivery is taken (R1, R3, R7, R14). A telegram that is handed on is acted on when it is of the
command's row; one of another row has no effect (log entry 4). The report comes before the hand-off, and the
choice that a lock lets through after it (log entry 10). -/
def State.takeDelivery (s : State) (d : Delivery) (mine : Telegram → Bool)
    (act : Telegram → State → State) : State :=
  match s.acceptanceFault d with
  | some counter => s.closeRx.countRx counter
  | none =>
    let h := Header.read d.bytes
    match s.fate h d.body with
    | .dropped counter => s.afterReport h.site ((s.closeRx.linkReport h.site).countRx counter)
    | .handed t => if mine t then s.afterReport h.site (act t (s.closeRx.linkReport h.site)) else s

/-- The arrival of a delivery at a telegram command. -/
def State.delivery (s : State) (rx : List Byte) (mine : Telegram → Bool)
    (act : Telegram → State → State) : State :=
  match s.closing rx with
  | some d => s.takeDelivery d mine act
  | none => s

/-- The telegram is of a kind. -/
def Telegram.isKind (kind : DownKind) (t : Telegram) : Bool := t.kind == kind

/-- The code of a STATUS QUERY. -/
def Telegram.code (t : Telegram) : Nat := natAt t.body 0 1

/-- The telegram is a STATUS QUERY with a code, or with a code that names nothing (R198). -/
def Telegram.isQuery (code : Nat) (t : Telegram) : Bool :=
  t.kind == .statusQuery && (t.code == code || 3 < t.code)

/-! ## SITE BEACON (R26) -/

/-- A SITE BEACON is taken: status 1 is CLOSING, any other OPEN (R26). -/
def State.takeSiteBeacon (s : State) (site status : Nat) : State :=
  if status = 1 ∧ s.link.mode = .locked ∧ s.link.lockedSite = some site then s.unlock else s

end Sys2Proof.Machine
end

