-- ==== Sys2Proof/Machine/Owners.lean ====
section
/-!
DEFINITION. The hand-off of a telegram to the owner of its kind (R14), the delivery that closes by itself
when its gap has passed (R1), and the event of a telegram command.
-/

namespace Sys2Proof.Machine

/-- The owner of a telegram's kind takes it (R14). The clear flag of a STATUS QUERY is set when it is not 0
(section 13.2). -/
def State.handOver (g : Telegram) (s : State) : State :=
  match g.kind with
  | .siteBeacon => s.takeSiteBeacon g.site (natAt g.body 0 1)
  | .timeSet => s.takeTimeSet (WallClock.read g.body)
  | .offer => s.takeOffer (OfferBody.read g.body) g.cls
  | .withdraw => s.takeWithdraw (natAt g.body 0 2)
  | .award => s.takeAward (AwardBody.read g.body)
  | .assign => s.takeAssign (AssignBody.read g.body)
  | .jobCancel => s.takeJobCancel (natAt g.body 0 2)
  | .message => s.takeMessage (MessageBody.read g.body)
  | .emergencyAck => s.takeAck (natAt g.body 0 2)
  | .standDown => s.takeStandDown (natAt g.body 0 2)
  | .tripRecall => s.takeRecall (natAt g.body 0 4)
  | .totalsQuery => s.takeTotalsQuery (natAt g.body 0 1)
  | .statusQuery => s.takeStatusQuery g.code (natAt g.body 1 1 != 0)
  | .bar => s.takeBar
  | .reinstate => s.takeReinstate
  | .restart => s.takeRestart
  | .loadOpen => s.airLoadOpen (loadOpenArg g.body)
  | .loadData => s.writeLoad (loadDataArg g.body)
  | .loadCommit => s.airLoadCommit (BitVec.ofNat 16 (natAt g.body 0 2))

/-- Before bytes that come at `t`, a delivery whose 5 ms have passed has closed: it is taken whole at the
instant it closed, by the owner of its kind (R1, R14; log entry 4). -/
def State.closeOverdue (s : State) (t : Stamp) : State :=
  match (s.advanceTo t).overdue with
  | some d =>
    if s.vdd && !s.ptt then
      (s.advanceTo (BitVec.ofNat 48 d.closes)).takeDelivery d (fun _ => true) State.handOver
    else s
  | none => s

/-- What comes before the bytes of a telegram command; a command that brings none is itself the closing of
the open delivery (log entry 4). -/
def State.beforeBytes (s : State) (t : Stamp) (rx : List Byte) : State :=
  if rx = [] then s else s.closeOverdue t

/-- The event of a telegram command: its delivery closes, and a telegram of its row goes to the owner. -/
def State.telegram (s : State) (t : Stamp) (rx : List Byte) (mine : Telegram → Bool) : State :=
  (s.beforeBytes t rx).event t fun s => s.delivery rx mine State.handOver

end Sys2Proof.Machine
end

