-- ==== Sys2Proof/Machine/Loads.lean ====
section
/-!
DEFINITION. The meanings of the load commands, from the air port and from the cab port (chapter 11). The
level of CALEN comes with the command (log entry 6).
-/

namespace Sys2Proof.Machine

/-- LOAD_OPEN (R188, R193). -/
def execLoadOpen (t : Stamp) (calen : Bool) (port : LoadPort LoadOpenArg) (s : State) :
    Host.Outcome State Fault Refusal :=
  match port with
  | .air rx =>
    .next ((s.beforeBytes t rx).event t fun s =>
      (s.setCalen calen).delivery rx (Telegram.isKind .loadOpen) State.handOver)
  | .cab arg => .next (s.event t fun s => (s.setCalen calen).toHunt.answer 0x14 (fun s => s.cabLoadOpen arg))

/-- LOAD_DATA (R189, R193). -/
def execLoadData (t : Stamp) (calen : Bool) (port : LoadPort LoadDataArg) (s : State) :
    Host.Outcome State Fault Refusal :=
  match port with
  | .air rx =>
    .next ((s.beforeBytes t rx).event t fun s =>
      (s.setCalen calen).delivery rx (Telegram.isKind .loadData) State.handOver)
  | .cab arg => .next (s.event t fun s => (s.setCalen calen).toHunt.answer 0x15 (fun s => s.cabLoadData arg))

/-- LOAD_COMMIT (R190 to R193). -/
def execLoadCommit (t : Stamp) (calen : Bool) (port : LoadPort Half) (s : State) :
    Host.Outcome State Fault Refusal :=
  match port with
  | .air rx =>
    .next ((s.beforeBytes t rx).event t fun s =>
      (s.setCalen calen).delivery rx (Telegram.isKind .loadCommit) State.handOver)
  | .cab check =>
    .next (s.event t fun s => (s.setCalen calen).toHunt.answer 0x16 (fun s => s.cabLoadCommit check))

end Sys2Proof.Machine
end

