-- ==== Sys2Proof/Machine/MeterTime.lean ====
section
/-!
DEFINITION. The meanings of the WHEEL pulse, the seconds tick and the end of a message's lifetime
(R114, R116, R162, R196).
-/

namespace Sys2Proof.Machine

/-- WHEEL_PULSE (R114). -/
def execWheelPulse (t : Stamp) (s : State) : Host.Outcome State Fault Refusal :=
  .next (s.event t fun s => s.setMeter s.meter.pulse)

/-- SECONDS_TICK (R116, R162, R196): while main power is absent the wall clock alone runs (log entry
16). -/
def execSecondsTick (t : Stamp) (s : State) : Host.Outcome State Fault Refusal :=
  .next (if s.vdd then s.event t State.secondsTick else s.tickClock)

/-- MESSAGE_EXPIRY (R162, log entry 8). -/
def execMessageExpiry (t : Stamp) (number : Half) (s : State) : Host.Outcome State Fault Refusal :=
  .next (s.event t fun s => s.expireMessage number.toNat)

end Sys2Proof.Machine
end

