-- ==== Sys2Proof/Machine/OfferTimers.lean ====
section
/-!
DEFINITION. The meanings of the deadlines of offer entries (chapter 5).
-/

namespace Sys2Proof.Machine

/-- DECISION_DEADLINE (R74). -/
def execDecisionDeadline (t : Stamp) (number : Half) (s : State) : Host.Outcome State Fault Refusal :=
  .next (s.event t fun s => s.decisionDeadline number.toNat)

/-- LAPSE_TIME (R75). -/
def execLapseTime (t : Stamp) (number : Half) (s : State) : Host.Outcome State Fault Refusal :=
  .next (s.event t fun s => s.lapseTime number.toNat)

end Sys2Proof.Machine
end

