-- ==== Sys2Proof/Machine/Reads.lean ====
section
/-!
DEFINITION. The meanings of the reads of the cab port (R207).
-/

namespace Sys2Proof.Machine

/-- READ_OFFER_TABLE (R89). -/
def execReadOfferTable (t : Stamp) (s : State) : Host.Outcome State Fault Refusal :=
  .next (s.request t 0x0D fun s => s.readOfferTable)

/-- READ_OFFER_TEXT (R89). -/
def execReadOfferText (t : Stamp) (number : Half) (first : Byte) (s : State) :
    Host.Outcome State Fault Refusal :=
  .next (s.request t 0x0D fun s => s.readOfferText number.toNat first.toNat)

/-- READ_JOB_BOOK (R107). -/
def execReadJobBook (t : Stamp) (s : State) : Host.Outcome State Fault Refusal :=
  .next (s.request t 0x0D fun s => s.readJobBook)

/-- READ_JOB_TEXT (R107). -/
def execReadJobText (t : Stamp) (job : Half) (first : Byte) (s : State) :
    Host.Outcome State Fault Refusal :=
  .next (s.request t 0x0D fun s => s.readJobText job.toNat first.toNat)

/-- READ_METER (R133). -/
def execReadMeter (t : Stamp) (s : State) : Host.Outcome State Fault Refusal :=
  .next (s.request t 0x0D fun s => s.readMeter)

/-- READ_TRIP (R151). -/
def execReadTrip (t : Stamp) (sequence : BitVec 32) (s : State) : Host.Outcome State Fault Refusal :=
  .next (s.request t 0x0D fun s => s.readTrip sequence.toNat)

/-- READ_SHIFT (R151). -/
def execReadShift (t : Stamp) (which : Byte) (s : State) : Host.Outcome State Fault Refusal :=
  .next (s.request t 0x0D fun s => s.readShift which.toNat)

/-- READ_MESSAGE_LIST (R168). -/
def execReadMessageList (t : Stamp) (s : State) : Host.Outcome State Fault Refusal :=
  .next (s.request t 0x0D fun s => s.readMessageList)

/-- READ_MESSAGE_FIELDS (R168). -/
def execReadMessageFields (t : Stamp) (number : Half) (s : State) : Host.Outcome State Fault Refusal :=
  .next (s.request t 0x0D fun s => s.readMessageFields number.toNat)

/-- READ_MESSAGE_TEXT (R168). -/
def execReadMessageText (t : Stamp) (number : Half) (first : Byte) (s : State) :
    Host.Outcome State Fault Refusal :=
  .next (s.request t 0x0D fun s => s.readMessageText number.toNat first.toNat)

/-- READ_MESSAGE_PHRASE (R168). -/
def execReadMessagePhrase (t : Stamp) (number : Half) (phrase : Byte) (s : State) :
    Host.Outcome State Fault Refusal :=
  .next (s.request t 0x0D fun s => s.readMessagePhrase number.toNat phrase.toNat)

/-- READ_LINK (R29). -/
def execReadLink (t : Stamp) (s : State) : Host.Outcome State Fault Refusal :=
  .next (s.request t 0x0D fun s => s.readLink)

/-- READ_EMERGENCY (R184). -/
def execReadEmergency (t : Stamp) (s : State) : Host.Outcome State Fault Refusal :=
  .next (s.request t 0x0D fun s => s.readEmergency)

/-- READ_COUNTERS (R207). -/
def execReadCounters (t : Stamp) (s : State) : Host.Outcome State Fault Refusal :=
  .next (s.request t 0x0D fun s => s.readCounters)

end Sys2Proof.Machine
end

