-- ==== Sys2Proof/Machine/Requests.lean ====
section
/-!
DEFINITION. The meanings of the cab-port requests (chapter 12): the owner takes the request, and its
answer joins the outgoing list behind the notices it raised, or the request overruns (R203 to R205).
-/

namespace Sys2Proof.Machine

/-- POSITION (R59 to R61, R64). -/
def execPosition (t : Stamp) (row col noFix : Byte) (s : State) : Host.Outcome State Fault Refusal :=
  .next (s.request t 0x01 fun s => s.position row col noFix)

/-- ACCEPT (R76 to R78). -/
def execAccept (t : Stamp) (number : Half) (s : State) : Host.Outcome State Fault Refusal :=
  .next (s.request t 0x02 fun s => s.accept number.toNat)

/-- DECLINE (R79). -/
def execDecline (t : Stamp) (number : Half) (s : State) : Host.Outcome State Fault Refusal :=
  .next (s.request t 0x03 fun s => s.decline number.toNat)

/-- ARRIVED (R100). -/
def execArrived (t : Stamp) (job : Half) (s : State) : Host.Outcome State Fault Refusal :=
  .next (s.request t 0x04 fun s => s.arrived job.toNat)

/-- NO_SHOW (R101). -/
def execNoShow (t : Stamp) (job : Half) (s : State) : Host.Outcome State Fault Refusal :=
  .next (s.request t 0x05 fun s => s.noShow job.toNat)

/-- SHIFT_OPEN (R112). -/
def execShiftOpen (t : Stamp) (driver : Half) (s : State) : Host.Outcome State Fault Refusal :=
  .next (s.request t 0x0B fun s => s.openShift driver.toNat)

/-- SHIFT_CLOSE (R113). -/
def execShiftClose (t : Stamp) (s : State) : Host.Outcome State Fault Refusal :=
  .next (s.request t 0x0C fun s => s.closeShift)

/-- HIRE (R122, R123). -/
def execHire (t : Stamp) (form : Byte) (s : State) : Host.Outcome State Fault Refusal :=
  .next (s.request t 0x06 fun s => s.hire form)

/-- STOP (R127). -/
def execStop (t : Stamp) (s : State) : Host.Outcome State Fault Refusal :=
  .next (s.request t 0x07 fun s => s.stop)

/-- RESUME (R128). -/
def execResume (t : Stamp) (s : State) : Host.Outcome State Fault Refusal :=
  .next (s.request t 0x08 fun s => s.resume)

/-- PAY (R131). -/
def execPay (t : Stamp) (form : Byte) (s : State) : Host.Outcome State Fault Refusal :=
  .next (s.request t 0x09 fun s => s.pay form)

/-- EXTRA (R129). -/
def execExtra (t : Stamp) (index : Byte) (s : State) : Host.Outcome State Fault Refusal :=
  .next (s.request t 0x0A fun s => s.extra index.toNat)

/-- MARK_READ (R164). -/
def execMarkRead (t : Stamp) (number : Half) (s : State) : Host.Outcome State Fault Refusal :=
  .next (s.request t 0x0E fun s => s.markRead number.toNat)

/-- REPLY (R165). -/
def execReply (t : Stamp) (number : Half) (phrase : Byte) (s : State) :
    Host.Outcome State Fault Refusal :=
  .next (s.request t 0x0F fun s => s.reply number.toNat phrase.toNat)

/-- SEND (R166). -/
def execSend (t : Stamp) (phrase : Byte) (s : State) : Host.Outcome State Fault Refusal :=
  .next (s.request t 0x10 fun s => s.send phrase.toNat)

/-- EMERGENCY_REQUEST (R172, R173, R175). -/
def execEmergencyRequest (t : Stamp) (s : State) : Host.Outcome State Fault Refusal :=
  .next (s.request t 0x11 fun s => s.emergencyRequest)

/-- CANCEL (R173, R176). -/
def execCancel (t : Stamp) (s : State) : Host.Outcome State Fault Refusal :=
  .next (s.request t 0x12 fun s => s.cancel)

/-- NOTICE_MASK (R206). -/
def execNoticeMask (t : Stamp) (enables : Half) (s : State) : Host.Outcome State Fault Refusal :=
  .next (s.request t 0x13 fun s => s.noticeMask enables)

end Sys2Proof.Machine
end

