-- ==== Sys2Proof/Machine/PowerOps.lean ====
section
/-!
DEFINITION. Power-on, the loss of main power and the retained store (R199, and each chapter's state
after reset).
-/

namespace Sys2Proof.Machine

/-- The close stamp of a held record is 0 after a power-on (R153). -/
def HeldTrip.restamp (h : HeldTrip) : HeldTrip := { h with closeStamp := 0 }

/-- The Trip Recorder without its volatile close stamps (R137). -/
def Trips.retained (t : Trips) : Trips := { t with log := t.log.map (Option.map HeldTrip.restamp) }

/-- The Dispatch Control Unit without its staging area and counter (chapter 11, introduction). -/
def Dcu.retained (d : Dcu) : Dcu := { d with staging := none, loadDiscarded := 0 }

/-- The Meter without m (chapter 7, introduction). -/
def Meter.retained (x : Meter) : Meter := { x with m := 0 }

/-- Volatile state is lost: what is left is the retained store, the supply and the pins. -/
def State.blank (s : State) : State :=
  { s with
    ms := 0, air := Air.reset, link := Link.reset, uls := Uls.reset, zone := ZoneUnit.reset
    offers := Offers.reset, jobs := JobBook.reset, meter := s.meter.retained
    trips := s.trips.retained, msgs := Messages.reset, emu := Emergency.reset
    dcu := s.dcu.retained, cab := CabPort.reset }

/-- VDD falls (R199): volatile state is lost and what is in progress is cut off. -/
def State.losePower (s : State) : State := if s.vdd then s.blank.setVdd false else s

/-- VBAK falls below its hold level: while VDD is absent the latch is set (R199). -/
def State.vbakFall (s : State) : State := if s.vdd then s else s.setVbakLatch true

/-- Every retained item takes its lost-store value, and a CLOCK notice with cause LOST is raised
(R199). -/
def State.loseStore (s : State) : State :=
  (((s.setMeter Meter.reset).setTrips Trips.reset).setDcu Dcu.reset).clockLostNotice

/-- The backup monitor's latch is read and then cleared (R199). -/
def State.checkStore (s : State) : State :=
  let s' := s.setVbakLatch false
  if s.vbakLatch then s'.loseStore else s'.setDcu { s.dcu with retainedValid := true }

/-- A trip in progress is closed UNSETTLED with the POWER flag, and the meter is VACANT (R135, R150). -/
def State.closeInterrupted (s : State) : State :=
  match s.meter.trip with
  | some p =>
    (s.setTrips (s.trips.close p .unsettled true s.now)).setMeter
      { s.meter with mode := .vacant, trip := none }
  | none => s

/-- The Uplink Scheduler comes up: the generator seeded, the window at the minimum (R55). -/
def State.startUls (s : State) : State :=
  s.setUls { s.uls with rng := s.address.cab, window := s.op.minWindow }

/-- The Link Controller comes up: it hunts from entry 0 with a committed channel list, and raises the
power-on LINK notice (R32). -/
def State.startLink (s : State) : State :=
  (if s.dcu.channels.isSome then s.enterHunting 0 else s).linkNotice .powerOn

/-- A power-on (R199): a supply rise, or RESETn low. -/
def State.powerOn (s : State) : State :=
  ((((s.blank.setVdd true).checkStore).closeInterrupted).startUls).startLink

end Sys2Proof.Machine
end

