-- ==== Sys2Proof/Machine/Supply.lean ====
section
/-!
DEFINITION. The meanings of the supply events and of a byte on ARXD (R1, R199).
-/

namespace Sys2Proof.Machine

/-- POWER_ON (R199). -/
def execPowerOn (s : State) : Host.Outcome State Fault Refusal :=
  .next s.powerOn

/-- VBAK_FALL (R199). -/
def execVbakFall (s : State) : Host.Outcome State Fault Refusal :=
  .next s.vbakFall

/-- ARXD_BYTE_RECEIVED (R1, R2): a delivery whose gap has passed before the byte is taken first. -/
def execArxdByteReceived (t : Stamp) (byte : Byte) (s : State) : Host.Outcome State Fault Refusal :=
  .next ((s.closeOverdue t).event t fun s => s.airByte byte)

/-- LOSS_OF_MAIN_POWER (R199). -/
def execLossOfMainPower (s : State) : Host.Outcome State Fault Refusal :=
  .next s.losePower

end Sys2Proof.Machine
end

