-- ==== Sys2Proof/Machine/Telegrams.lean ====
section
/-!
DEFINITION. The meanings of the telegram arrivals: a delivery closes, is tested and counted or reported
(chapter 1), and the telegram handed on is taken by its owner (State.handOver; log entry 4).
-/

namespace Sys2Proof.Machine

/-- DELIVERY_DROPPED (R3 to R13): a delivery that is not handed on. -/
def execDeliveryDropped (t : Stamp) (rx : List Byte) (s : State) : Host.Outcome State Fault Refusal :=
  .next (s.telegram t rx (fun _ => false))

/-- SITE_BEACON (R26). -/
def execSiteBeacon (t : Stamp) (rx : List Byte) (s : State) : Host.Outcome State Fault Refusal :=
  .next (s.telegram t rx (Telegram.isKind .siteBeacon))

/-- TIME_SET (R197). -/
def execTimeSet (t : Stamp) (rx : List Byte) (s : State) : Host.Outcome State Fault Refusal :=
  .next (s.telegram t rx (Telegram.isKind .timeSet))

/-- OFFER (R69 to R73). -/
def execOffer (t : Stamp) (rx : List Byte) (s : State) : Host.Outcome State Fault Refusal :=
  .next (s.telegram t rx (Telegram.isKind .offer))

/-- WITHDRAW (R81). -/
def execWithdraw (t : Stamp) (rx : List Byte) (s : State) : Host.Outcome State Fault Refusal :=
  .next (s.telegram t rx (Telegram.isKind .withdraw))

/-- AWARD (R82 to R84). -/
def execAward (t : Stamp) (rx : List Byte) (s : State) : Host.Outcome State Fault Refusal :=
  .next (s.telegram t rx (Telegram.isKind .award))

/-- ASSIGN (R96). -/
def execAssign (t : Stamp) (rx : List Byte) (s : State) : Host.Outcome State Fault Refusal :=
  .next (s.telegram t rx (Telegram.isKind .assign))

/-- JOB_CANCEL (R104). -/
def execJobCancel (t : Stamp) (rx : List Byte) (s : State) : Host.Outcome State Fault Refusal :=
  .next (s.telegram t rx (Telegram.isKind .jobCancel))

/-- MESSAGE (R158, R159). -/
def execMessage (t : Stamp) (rx : List Byte) (s : State) : Host.Outcome State Fault Refusal :=
  .next (s.telegram t rx (Telegram.isKind .message))

/-- EMERGENCY_ACK (R177). -/
def execEmergencyAck (t : Stamp) (rx : List Byte) (s : State) : Host.Outcome State Fault Refusal :=
  .next (s.telegram t rx (Telegram.isKind .emergencyAck))

/-- STAND_DOWN (R178). -/
def execStandDown (t : Stamp) (rx : List Byte) (s : State) : Host.Outcome State Fault Refusal :=
  .next (s.telegram t rx (Telegram.isKind .standDown))

/-- TRIP_RECALL (R144). -/
def execTripRecall (t : Stamp) (rx : List Byte) (s : State) : Host.Outcome State Fault Refusal :=
  .next (s.telegram t rx (Telegram.isKind .tripRecall))

/-- TOTALS_QUERY (R149). -/
def execTotalsQuery (t : Stamp) (rx : List Byte) (s : State) : Host.Outcome State Fault Refusal :=
  .next (s.telegram t rx (Telegram.isKind .totalsQuery))

/-- STATUS_QUERY_IDENTITY (R198). -/
def execStatusQueryIdentity (t : Stamp) (rx : List Byte) (s : State) : Host.Outcome State Fault Refusal :=
  .next (s.telegram t rx (Telegram.isQuery 0))

/-- STATUS_QUERY_VERSIONS (R198). -/
def execStatusQueryVersions (t : Stamp) (rx : List Byte) (s : State) : Host.Outcome State Fault Refusal :=
  .next (s.telegram t rx (Telegram.isQuery 1))

/-- STATUS_QUERY_COUNTERS (R198). -/
def execStatusQueryCounters (t : Stamp) (rx : List Byte) (s : State) : Host.Outcome State Fault Refusal :=
  .next (s.telegram t rx (Telegram.isQuery 2))

/-- STATUS_QUERY_SNAPSHOT (R198). -/
def execStatusQuerySnapshot (t : Stamp) (rx : List Byte) (s : State) : Host.Outcome State Fault Refusal :=
  .next (s.telegram t rx (Telegram.isQuery 3))

/-- BAR (R194). -/
def execBar (t : Stamp) (rx : List Byte) (s : State) : Host.Outcome State Fault Refusal :=
  .next (s.telegram t rx (Telegram.isKind .bar))

/-- REINSTATE (R194). -/
def execReinstate (t : Stamp) (rx : List Byte) (s : State) : Host.Outcome State Fault Refusal :=
  .next (s.telegram t rx (Telegram.isKind .reinstate))

/-- RESTART (R195). -/
def execRestart (t : Stamp) (rx : List Byte) (s : State) : Host.Outcome State Fault Refusal :=
  .next (s.telegram t rx (Telegram.isKind .restart))

end Sys2Proof.Machine
end

