-- ==== Sys2Proof/Machine/Dispatch.lean ====
section
/-!
DEFINITION. The meaning of every command: one arm per constructor of Instr. No arm touches the queue of
waiting commands.
-/

namespace Sys2Proof.Machine

/-- The effect of a command on everything but the queue. -/
def exec (i : Instr) (s : State) : Host.Outcome State Fault Refusal :=
  match i with
  | .deliveryDropped t rx => Sys2Proof.Machine.execDeliveryDropped t rx s
  | .siteBeacon t rx => Sys2Proof.Machine.execSiteBeacon t rx s
  | .timeSet t rx => Sys2Proof.Machine.execTimeSet t rx s
  | .offer t rx => Sys2Proof.Machine.execOffer t rx s
  | .withdraw t rx => Sys2Proof.Machine.execWithdraw t rx s
  | .award t rx => Sys2Proof.Machine.execAward t rx s
  | .assign t rx => Sys2Proof.Machine.execAssign t rx s
  | .jobCancel t rx => Sys2Proof.Machine.execJobCancel t rx s
  | .message t rx => Sys2Proof.Machine.execMessage t rx s
  | .emergencyAck t rx => Sys2Proof.Machine.execEmergencyAck t rx s
  | .standDown t rx => Sys2Proof.Machine.execStandDown t rx s
  | .tripRecall t rx => Sys2Proof.Machine.execTripRecall t rx s
  | .totalsQuery t rx => Sys2Proof.Machine.execTotalsQuery t rx s
  | .statusQueryIdentity t rx => Sys2Proof.Machine.execStatusQueryIdentity t rx s
  | .statusQueryVersions t rx => Sys2Proof.Machine.execStatusQueryVersions t rx s
  | .statusQueryCounters t rx => Sys2Proof.Machine.execStatusQueryCounters t rx s
  | .statusQuerySnapshot t rx => Sys2Proof.Machine.execStatusQuerySnapshot t rx s
  | .bar t rx => Sys2Proof.Machine.execBar t rx s
  | .reinstate t rx => Sys2Proof.Machine.execReinstate t rx s
  | .restart t rx => Sys2Proof.Machine.execRestart t rx s
  | .loadOpen t calen port => Sys2Proof.Machine.execLoadOpen t calen port s
  | .loadData t calen port => Sys2Proof.Machine.execLoadData t calen port s
  | .loadCommit t calen port => Sys2Proof.Machine.execLoadCommit t calen port s
  | .settleExpiry t => Sys2Proof.Machine.execSettleExpiry t s
  | .dwellExpiry t => Sys2Proof.Machine.execDwellExpiry t s
  | .silenceExpiry t => Sys2Proof.Machine.execSilenceExpiry t s
  | .cdFall t => Sys2Proof.Machine.execCdFall t s
  | .cdRise t => Sys2Proof.Machine.execCdRise t s
  | .clearTimerExpiry t => Sys2Proof.Machine.execClearTimerExpiry t s
  | .backoffEnd t => Sys2Proof.Machine.execBackoffEnd t s
  | .transmissionComplete t => Sys2Proof.Machine.execTransmissionComplete t s
  | .bidRelease t => Sys2Proof.Machine.execBidRelease t s
  | .bidDeadline t => Sys2Proof.Machine.execBidDeadline t s
  | .decisionDeadline t number => Sys2Proof.Machine.execDecisionDeadline t number s
  | .lapseTime t number => Sys2Proof.Machine.execLapseTime t number s
  | .position t row col noFix => Sys2Proof.Machine.execPosition t row col noFix s
  | .accept t number => Sys2Proof.Machine.execAccept t number s
  | .decline t number => Sys2Proof.Machine.execDecline t number s
  | .arrived t job => Sys2Proof.Machine.execArrived t job s
  | .noShow t job => Sys2Proof.Machine.execNoShow t job s
  | .shiftOpen t driver => Sys2Proof.Machine.execShiftOpen t driver s
  | .shiftClose t => Sys2Proof.Machine.execShiftClose t s
  | .hire t form => Sys2Proof.Machine.execHire t form s
  | .stop t => Sys2Proof.Machine.execStop t s
  | .resume t => Sys2Proof.Machine.execResume t s
  | .pay t form => Sys2Proof.Machine.execPay t form s
  | .extra t index => Sys2Proof.Machine.execExtra t index s
  | .readOfferTable t => Sys2Proof.Machine.execReadOfferTable t s
  | .readOfferText t number first => Sys2Proof.Machine.execReadOfferText t number first s
  | .readJobBook t => Sys2Proof.Machine.execReadJobBook t s
  | .readJobText t job first => Sys2Proof.Machine.execReadJobText t job first s
  | .readMeter t => Sys2Proof.Machine.execReadMeter t s
  | .readTrip t sequence => Sys2Proof.Machine.execReadTrip t sequence s
  | .readShift t which => Sys2Proof.Machine.execReadShift t which s
  | .readMessageList t => Sys2Proof.Machine.execReadMessageList t s
  | .readMessageFields t number => Sys2Proof.Machine.execReadMessageFields t number s
  | .readMessageText t number first => Sys2Proof.Machine.execReadMessageText t number first s
  | .readMessagePhrase t number phrase => Sys2Proof.Machine.execReadMessagePhrase t number phrase s
  | .readLink t => Sys2Proof.Machine.execReadLink t s
  | .readEmergency t => Sys2Proof.Machine.execReadEmergency t s
  | .readCounters t => Sys2Proof.Machine.execReadCounters t s
  | .markRead t number => Sys2Proof.Machine.execMarkRead t number s
  | .reply t number phrase => Sys2Proof.Machine.execReply t number phrase s
  | .send t phrase => Sys2Proof.Machine.execSend t phrase s
  | .emergencyRequest t => Sys2Proof.Machine.execEmergencyRequest t s
  | .cancel t => Sys2Proof.Machine.execCancel t s
  | .noticeMask t enables => Sys2Proof.Machine.execNoticeMask t enables s
  | .unknownRequest t kind => Sys2Proof.Machine.execUnknownRequest t kind s
  | .frameRefused t fault => Sys2Proof.Machine.execFrameRefused t fault s
  | .assemblyTimeout t => Sys2Proof.Machine.execAssemblyTimeout t s
  | .frameSent t => Sys2Proof.Machine.execFrameSent t s
  | .wheelPulse t => Sys2Proof.Machine.execWheelPulse t s
  | .secondsTick t => Sys2Proof.Machine.execSecondsTick t s
  | .messageExpiry t number => Sys2Proof.Machine.execMessageExpiry t number s
  | .emergPress t => Sys2Proof.Machine.execEmergPress t s
  | .covertPress t => Sys2Proof.Machine.execCovertPress t s
  | .graceExpiry t => Sys2Proof.Machine.execGraceExpiry t s
  | .beaconDue t => Sys2Proof.Machine.execBeaconDue t s
  | .powerOn => Sys2Proof.Machine.execPowerOn s
  | .vbakFall => Sys2Proof.Machine.execVbakFall s
  | .arxdByteReceived t byte => Sys2Proof.Machine.execArxdByteReceived t byte s
  | .cabPortByteReceived t calen byte => Sys2Proof.Machine.execCabPortByteReceived t calen byte s
  | .lossOfMainPower => Sys2Proof.Machine.execLossOfMainPower s

end Sys2Proof.Machine
end

