-- ==== Sys2Proof/Machine/Step.lean ====
section
/-!
DEFINITION. One step of the LD-72: the command at the front of the queue is taken. The block has no
fetch; no word spells a command (log entry 20).
-/

namespace Sys2Proof.Machine

/-- A command is put at the front of the queue. -/
def State.enqueueFirst (s : State) (i : Instr) : State := s.setPending (i :: s.pending)

/-- Take the command at the front of the queue and run it with the queue's rest; with an empty queue the
part idles (log entry 2). -/
def step (s : State) : Host.Outcome State Fault Refusal :=
  match s.pending with
  | [] => .next s
  | i :: rest => exec i (s.setPending rest)

/-- The command that a word spells is put at the front of the queue; where it spells none, nothing
changes. -/
def State.withFetchWord (s : State) (nbits w : Nat) : State :=
  match decodeTableWord nbits w with
  | some i => s.enqueueFirst i
  | none => s

end Sys2Proof.Machine
end

