-- ==== Sys2Proof/Machine/Frames.lean ====
section
/-!
DEFINITION. What a command carries beside its effect: its stamp, the level of CALEN, and, for a request,
the kind and body of its frame (section 13.4).
-/

namespace Sys2Proof

open Machine

/-- The reading of the millisecond timer a command carries; the supply commands carry none (log
entry 1). -/
def Instr.stamp : Instr → Option Stamp
  | .deliveryDropped t .. => some t
  | .siteBeacon t .. => some t
  | .timeSet t .. => some t
  | .offer t .. => some t
  | .withdraw t .. => some t
  | .award t .. => some t
  | .assign t .. => some t
  | .jobCancel t .. => some t
  | .message t .. => some t
  | .emergencyAck t .. => some t
  | .standDown t .. => some t
  | .tripRecall t .. => some t
  | .totalsQuery t .. => some t
  | .statusQueryIdentity t .. => some t
  | .statusQueryVersions t .. => some t
  | .statusQueryCounters t .. => some t
  | .statusQuerySnapshot t .. => some t
  | .bar t .. => some t
  | .reinstate t .. => some t
  | .restart t .. => some t
  | .loadOpen t .. => some t
  | .loadData t .. => some t
  | .loadCommit t .. => some t
  | .settleExpiry t => some t
  | .dwellExpiry t => some t
  | .silenceExpiry t => some t
  | .cdFall t => some t
  | .cdRise t => some t
  | .clearTimerExpiry t => some t
  | .backoffEnd t => some t
  | .transmissionComplete t => some t
  | .bidRelease t => some t
  | .bidDeadline t => some t
  | .decisionDeadline t .. => some t
  | .lapseTime t .. => some t
  | .position t .. => some t
  | .accept t .. => some t
  | .decline t .. => some t
  | .arrived t .. => some t
  | .noShow t .. => some t
  | .shiftOpen t .. => some t
  | .shiftClose t => some t
  | .hire t .. => some t
  | .stop t => some t
  | .resume t => some t
  | .pay t .. => some t
  | .extra t .. => some t
  | .readOfferTable t => some t
  | .readOfferText t .. => some t
  | .readJobBook t => some t
  | .readJobText t .. => some t
  | .readMeter t => some t
  | .readTrip t .. => some t
  | .readShift t .. => some t
  | .readMessageList t => some t
  | .readMessageFields t .. => some t
  | .readMessageText t .. => some t
  | .readMessagePhrase t .. => some t
  | .readLink t => some t
  | .readEmergency t => some t
  | .readCounters t => some t
  | .markRead t .. => some t
  | .reply t .. => some t
  | .send t .. => some t
  | .emergencyRequest t => some t
  | .cancel t => some t
  | .noticeMask t .. => some t
  | .unknownRequest t .. => some t
  | .frameRefused t .. => some t
  | .assemblyTimeout t => some t
  | .frameSent t => some t
  | .wheelPulse t => some t
  | .secondsTick t => some t
  | .messageExpiry t .. => some t
  | .emergPress t => some t
  | .covertPress t => some t
  | .graceExpiry t => some t
  | .beaconDue t => some t
  | .powerOn => none
  | .vbakFall => none
  | .arxdByteReceived t .. => some t
  | .cabPortByteReceived t .. => some t
  | .lossOfMainPower => none

/-- The level of CALEN a command carries (log entry 6). -/
def Instr.calenLevel : Instr → Option Bool
  | .loadOpen _ calen _ => some calen
  | .loadData _ calen _ => some calen
  | .loadCommit _ calen _ => some calen
  | .cabPortByteReceived _ calen _ => some calen
  | _ => none

/-- The kind and the body of the frame that carries a request (section 13.4). -/
def Instr.request : Instr → Option (Byte × List Byte)
  | .loadOpen _ _ (.cab arg) => some (0x14, arg.kind :: be 2 arg.version.toNat)
  | .loadData _ _ (.cab arg) => some (0x15, be 2 arg.offset.toNat ++ arg.data)
  | .loadCommit _ _ (.cab check) => some (0x16, be 2 check.toNat)
  | .position _ row col noFix => some (0x01, [row, col, noFix])
  | .accept _ number => some (0x02, be 2 number.toNat)
  | .decline _ number => some (0x03, be 2 number.toNat)
  | .arrived _ job => some (0x04, be 2 job.toNat)
  | .noShow _ job => some (0x05, be 2 job.toNat)
  | .shiftOpen _ driver => some (0x0B, be 2 driver.toNat)
  | .shiftClose _ => some (0x0C, [])
  | .hire _ form => some (0x06, [form])
  | .stop _ => some (0x07, [])
  | .resume _ => some (0x08, [])
  | .pay _ form => some (0x09, [form])
  | .extra _ index => some (0x0A, [index])
  | .readOfferTable _ => some (0x0D, [0])
  | .readOfferText _ number first => some (0x0D, 0 :: be 2 number.toNat ++ [first])
  | .readJobBook _ => some (0x0D, [1])
  | .readJobText _ job first => some (0x0D, 1 :: be 2 job.toNat ++ [first])
  | .readMeter _ => some (0x0D, [2])
  | .readTrip _ sequence => some (0x0D, 3 :: be 4 sequence.toNat)
  | .readShift _ which => some (0x0D, [4, which])
  | .readMessageList _ => some (0x0D, [5])
  | .readMessageFields _ number => some (0x0D, 6 :: be 2 number.toNat ++ [0, 0])
  | .readMessageText _ number first => some (0x0D, 6 :: be 2 number.toNat ++ [1, first])
  | .readMessagePhrase _ number phrase => some (0x0D, 6 :: be 2 number.toNat ++ [2, phrase])
  | .readLink _ => some (0x0D, [7])
  | .readEmergency _ => some (0x0D, [8])
  | .readCounters _ => some (0x0D, [9])
  | .markRead _ number => some (0x0E, be 2 number.toNat)
  | .reply _ number phrase => some (0x0F, be 2 number.toNat ++ [phrase])
  | .send _ phrase => some (0x10, [phrase])
  | .emergencyRequest _ => some (0x11, [])
  | .cancel _ => some (0x12, [])
  | .noticeMask _ enables => some (0x13, be 2 enables.toNat)
  | _ => none

/-- A request of the cab port that reads a record (R207). -/
def Instr.isRead (i : Instr) : Bool := i.request.any (fun r => r.1 == 0x0D)

/-- The bytes that a telegram command brings (log entry 4); none for every other command. -/
def Instr.delivery : Instr → Option (List Byte)
  | .deliveryDropped _ rx => some rx
  | .siteBeacon _ rx => some rx
  | .timeSet _ rx => some rx
  | .offer _ rx => some rx
  | .withdraw _ rx => some rx
  | .award _ rx => some rx
  | .assign _ rx => some rx
  | .jobCancel _ rx => some rx
  | .message _ rx => some rx
  | .emergencyAck _ rx => some rx
  | .standDown _ rx => some rx
  | .tripRecall _ rx => some rx
  | .totalsQuery _ rx => some rx
  | .statusQueryIdentity _ rx => some rx
  | .statusQueryVersions _ rx => some rx
  | .statusQueryCounters _ rx => some rx
  | .statusQuerySnapshot _ rx => some rx
  | .bar _ rx => some rx
  | .reinstate _ rx => some rx
  | .restart _ rx => some rx
  | .loadOpen _ _ (.air rx) => some rx
  | .loadData _ _ (.air rx) => some rx
  | .loadCommit _ _ (.air rx) => some rx
  | _ => none

/-- A telegram command whose kind the barred filter drops (R13). -/
def Instr.barFiltered : Instr → Bool
  | .offer .. => true
  | .withdraw .. => true
  | .award .. => true
  | .assign .. => true
  | .jobCancel .. => true
  | .tripRecall .. => true
  | .totalsQuery .. => true
  | .bar .. => true
  | .restart .. => true
  | .loadOpen _ _ (.air _) => true
  | .loadData _ _ (.air _) => true
  | .loadCommit _ _ (.air _) => true
  | _ => false

end Sys2Proof
end

