-- ==== Sys2Proof/Safety.lean ====
section
/-!
DEFINITION. The terms in which claims about the LD-72 are stated: what it is for a request to be answered
and for a telegram to be heard, and the properties of a state that every step keeps.
-/

namespace Sys2Proof.Machine

/-! ## Requests and telegrams -/

/-- The cab port after a request has arrived and been answered with nothing else joining: assembly is in
HUNT, and the RESPONSE, with the overrun mark, joins the outgoing list (R201, R203 to R205). -/
def CabPort.answered (c : CabPort) (kind : Byte) (code : RespCode) (fields : List (List Byte)) : CabPort :=
  CabPort.join { c with assembly := .hunt, overrunMark := false }
    (.response kind code.byte (flagByte c.overrunMark) fields.flatten)

/-- The state with the cab port of an answered request. -/
def State.replied (s : State) (kind : Byte) (code : RespCode) (fields : List (List Byte)) : State :=
  s.setCab (s.cab.answered kind code fields)

/-- No frame waits while CTXD is free (R204). -/
def CabPort.CtxdServed (c : CabPort) : Prop := c.sending = none → c.waiting = []

/-- The part takes a request that arrives: main power is present, and fewer than four responses wait
(R205). -/
def State.takes (s : State) : Prop := s.vdd = true ∧ s.cab.responses < Config.responsesMax

/-- With `rx` brought by a telegram command, a delivery closes in `s`, is accepted, matched and handed on
as the telegram `g` (R1, R3 to R14). -/
def State.hears (s : State) (rx : List Byte) (g : Telegram) : Prop :=
  ∃ d, s.closing rx = some d ∧ s.acceptanceFault d = none
    ∧ s.fate (Header.read d.bytes) d.body = .handed g

/-- The command by whose row a telegram is taken at `t`, with a delivery that has gathered all its bytes
(section 13.2; log entry 4). -/
def Telegram.command (g : Telegram) (t : Stamp) (calen : Bool) : Instr :=
  match g.kind with
  | .siteBeacon => .siteBeacon t []
  | .timeSet => .timeSet t []
  | .offer => .offer t []
  | .withdraw => .withdraw t []
  | .award => .award t []
  | .assign => .assign t []
  | .jobCancel => .jobCancel t []
  | .message => .message t []
  | .emergencyAck => .emergencyAck t []
  | .standDown => .standDown t []
  | .tripRecall => .tripRecall t []
  | .totalsQuery => .totalsQuery t []
  | .statusQuery =>
    match g.code with
    | 0 => .statusQueryIdentity t []
    | 1 => .statusQueryVersions t []
    | 2 => .statusQueryCounters t []
    | _ => .statusQuerySnapshot t []
  | .bar => .bar t []
  | .reinstate => .reinstate t []
  | .restart => .restart t []
  | .loadOpen => .loadOpen t calen (.air [])
  | .loadData => .loadData t calen (.air [])
  | .loadCommit => .loadCommit t calen (.air [])

/-- The state in which the owner of a telegram finds the part: the receive buffer is free and the Link
Controller has taken the report of the site (R1, R7, R22). -/
def State.found (s : State) (site : Nat) : State := s.closeRx.linkReport site

/-- The Link Controller after entering HUNTING at an entry (R20): no timer but the settle timer, which
starts as the tune word is sent, or none with the tune word pending while PTT is asserted. -/
def State.huntsAt (s : State) (entry passes : Nat) : Link :=
  let l :=
    { s.link with
      mode := .hunting, phase := .settling, entry := entry, lockedSite := none, dwell := none
      silence := .off, huntPasses := passes }
  if s.ptt then { l with settle := none, tunePending := true }
  else
    { l with
      settle := some (s.now + s.op.settle)
      tunePending := false
      tuneWord := some (0xA5 :: be 2 (((s.channels[entry]?).map (fun c => c.number)).getD 0 % 1024)) }

/-- The Link Controller after the advance of R23: the next entry, or entry 0 and one hunt pass more. -/
def State.huntsOn (s : State) : Link :=
  if s.link.entry + 1 < s.channels.length then s.huntsAt (s.link.entry + 1) s.link.huntPasses
  else s.huntsAt 0 (min 65535 (s.link.huntPasses + 1))

/-- The entry a queued uplink becomes (R34). -/
def State.entryFor (s : State) (kind : UplinkKind) (body : List Byte) : Entry :=
  { kind := kind, level := (s.op.params kind).level, attempts := 0, join := s.now, body := body,
    bid := none, mark := .waiting }

/-! ## Frames -/

/-- What a choice, a join or a removal of an uplink may touch: the Uplink Scheduler, an open delivery
(abandoned when PTT is asserted, R2) and the silence timer (paused while PTT is asserted, R25). -/
def State.radioWork (s s' : State) : Prop :=
  s' =
    { s with
      uls := s'.uls
      air := { s.air with rx := s'.air.rx }
      link := { s.link with silence := s'.link.silence } }

/-- What raising a notice or answering a request may touch: the cab port (R203, R204). -/
def State.cabWork (s s' : State) : Prop := s' = { s with cab := s'.cab }

/-! ## Collections and their capacities (R34, R68, R93, R160, R205) -/

/-- No collection holds more than its capacity. -/
def State.Bounded (s : State) : Prop :=
  s.uls.queue.length ≤ Config.queueMax ∧ s.offers.table.length ≤ Config.offersMax
    ∧ s.jobs.queued.length ≤ Config.queuedMax ∧ s.msgs.store.length ≤ Config.storeMax
    ∧ s.cab.responses ≤ Config.responsesMax ∧ s.cab.notices ≤ Config.noticesMax

/-- No two held entries, jobs or messages share a number (R68, R93, R160). -/
def State.Distinct (s : State) : Prop :=
  (s.offers.table.map (fun e => e.number)).Nodup ∧ (s.jobs.jobs.map (fun j => j.number)).Nodup
    ∧ (s.msgs.store.map (fun x => x.number)).Nodup

/-! ## Link and uplinks (R33, R52) -/

/-- An access is in progress: CLEARING or BACKOFF (R33). -/
def Sched.inAccess : Sched → Bool
  | .idle => false
  | .clearing _ _ => true
  | .backoff _ _ => true
  | .onAir _ => false

/-- An access is in progress only while the link is LOCKED (R52). -/
def State.AccessLocked (s : State) : Prop := s.uls.sched.inAccess = true → s.link.mode = .locked

/-! ## Offers and emergency (R86, R87, R170) -/

/-- No offer is held while the cab is BARRED, during an overt call, or OFF-SHIFT (R71, R86). -/
def State.NoOffersWhenClosed (s : State) : Prop :=
  s.dcu.barred = true ∨ s.emu.overtCall = true ∨ s.meter.mode = .offShift → s.offers.table = []

/-- No BID is queued during a call (R87). -/
def State.NoBidInCall (s : State) : Prop :=
  s.emu.inCall = true → ∀ e ∈ s.uls.queue, e.kind ≠ .bid

/-- What the emergency state says about the flag, the deadline and the pending beacon (R170). -/
def State.CallShape (s : State) : Prop :=
  (s.emu.grace.isSome = true ↔ s.emu.state = .arming)
    ∧ (s.emu.beacon.isSome = true ↔ s.emu.inCall = true)
    ∧ (s.emu.covert = true → s.emu.inCall = true)

/-! ## Meter (R110, R119, R137) -/

/-- A trip is in progress exactly while HIRED or STOPPED, and a shift record is current exactly outside
OFF-SHIFT (R110, R137). -/
def State.ShiftShape (s : State) : Prop :=
  (s.meter.trip.isSome = true ↔ s.meter.mode = .hired ∨ s.meter.mode = .stopped)
    ∧ (s.trips.current.isSome = true ↔ s.meter.mode ≠ .offShift)

/-- The ranges of a tariff that keep its thresholds above 0 (R187). -/
def Tariff.sound (t : Tariff) : Prop := 10 ≤ t.distance ∧ 1 ≤ t.time ∧ 1 ≤ t.firstStep

/-- A tariff set holds a tariff, sound tariffs, and bands that name its tariffs (R187). -/
def TariffSet.sound (set : TariffSet) : Prop :=
  set.tariffs ≠ [] ∧ (∀ t ∈ set.tariffs, t.sound)
    ∧ ∀ b ∈ set.bands, 1 ≤ b.tariff ∧ b.tariff ≤ set.tariffs.length

/-- The banks are sound, and the progress accumulator of a trip is below the threshold in force
(R119). -/
def State.ProgressBelow (s : State) : Prop :=
  (∀ b, s.meter.active = some b → b.set.sound) ∧ (∀ b, s.meter.pendingBank = some b → b.set.sound)
    ∧ ∀ p, s.meter.trip = some p →
        ∃ t, s.tariff p.tariff = some t ∧ p.progress < t.threshold p.threshold

/-- The residue lies below K, and with no calibration nothing is counted (R114, R134). -/
def State.ResidueBelow (s : State) : Prop :=
  match s.meter.calibration with
  | some c => 500 ≤ c.k ∧ c.k ≤ 20000 ∧ 20 ≤ c.vmax ∧ c.vmax ≤ 100 ∧ s.meter.residue < c.k
  | none => s.meter.residue = 0 ∧ s.meter.m = 0

/-- The meter may go from one state to the other at a cab-port request (R110). -/
def MeterMode.edge : MeterMode → MeterMode → Bool
  | .offShift, .vacant => true
  | .vacant, .hired => true
  | .hired, .stopped => true
  | .stopped, .hired => true
  | .stopped, .vacant => true
  | .vacant, .offShift => true
  | _, _ => false

/-! ## Jobs, messages and trips (R109, R140, R141, R160) -/

/-- While main power is present, a job is ON-BOARD exactly while the trip in progress is bound to it, and
a QUEUED job is ASSIGNED with no arrival stamp (R92, R109). -/
def State.OnBoardIsBound (s : State) : Prop :=
  s.vdd = true →
    (∀ j, s.jobs.active = some j → j.state = .onBoard →
        ∃ p, s.meter.trip = some p ∧ p.job = some j.number)
      ∧ (∀ p n, s.meter.trip = some p → p.job = some n →
        ∃ j, s.jobs.active = some j ∧ j.number = n ∧ j.state = .onBoard)
      ∧ ∀ j ∈ s.jobs.queued, j.state = .assigned ∧ j.arrived = none

/-- Every JOBNOTE refers to a job in the book, a message of another class to none, and no text is longer
than 240 positions (R160). -/
def State.NotesLinked (s : State) : Prop :=
  ∀ x ∈ s.msgs.store, x.text.positions.length ≤ 240
    ∧ (x.cls = .jobnote → ∃ n, x.job = some n ∧ s.jobs.holds n = true)
    ∧ (x.cls ≠ .jobnote → x.job = none)

/-- Sixteen slots, each record in the slot of its sequence number, and the counter in its range
(R137, R141). -/
def Trips.ring (t : Trips) : Prop :=
  t.log.length = 16 ∧ (1 ≤ t.sequence ∧ t.sequence ≤ Config.sequenceMax)
    ∧ ∀ n h, t.log[n]? = some (some h) → h.record.sequence % 16 = n

/-- While the charged sum has not saturated it equals the four payment sums added together (R140). -/
def ShiftRecord.balanced (r : ShiftRecord) : Prop :=
  r.chargedSum < Config.sumMax → r.chargedSum = r.cashSum + r.cardSum + r.accountSum + r.unsettledSum

/-- Both shift records are balanced. -/
def State.Balanced (s : State) : Prop :=
  (∀ r, s.trips.current = some r → r.balanced) ∧ ∀ r, s.trips.previous = some r → r.balanced

/-! ## Wall clock and staging (R189, R196) -/

/-- The wall clock, while set, holds a time in range (R196). -/
def State.ClockInRange (s : State) : Prop :=
  ∀ c, s.dcu.clock = some c → c.day ≤ 65535 ∧ c.dayOfWeek ≤ 6 ∧ c.second ≤ 86399

/-- The staged image is in its canonical form and lies inside the image of its kind (R189). -/
def State.StagedInside (s : State) : Prop :=
  ∀ g, s.dcu.staging = some g →
    g.image.wf = true ∧ ∀ c ∈ g.image, c.1 < g.kind.length

end Sys2Proof.Machine
end

