-- ==== Sys2Proof/Certificates/Slice0/Obligations.lean ====
section
/-!
DEFINITION. The statements for the provers, chapter by chapter of the spec, from its numbered rules. A state
is given by the updates of its parts (setX), by the vocabulary of Safety, and by the scheduler's own
operations (join, queue, choose), whose rules are stated in chapter 3.
-/

section

open Sys2Proof Sys2Proof.Machine

/-! ## Chapter 1: air reception -/

/-- R1, R2, R14: a byte on ARXD opens a delivery or joins the open one; the first 104 bytes are stored, all
are counted, and while PTT is asserted the byte is discarded. A delivery whose 5 ms have passed closes before
bytes that come later, at the end of the 5 ms: it goes to the owner of its telegram, or is dropped, and the
bytes find no delivery open.
How commands carry a delivery and its closing is the model's choice (log entry 4). -/
def Obligations.AirByteGathered : Prop :=
  ∀ (s : State) (t : Stamp) (b : Byte), s.vdd = true →
    let opened := fun (bytes : List Byte) (size : Nat) =>
      (s.advanceTo t).setAir
        { s.air with rx := some { bytes := bytes, size := size, last := (s.advanceTo t).now } }
    (s.ptt = true → exec (.arxdByteReceived t b) s = .next (s.advanceTo t))
      ∧ (s.ptt = false → s.air.rx = none → exec (.arxdByteReceived t b) s = .next (opened [b] 1))
      ∧ ∀ d, s.ptt = false → s.air.rx = some d →
        ((s.advanceTo t).now < d.last + 5 →
          (d.bytes.length < 104 →
            exec (.arxdByteReceived t b) s = .next (opened (d.bytes ++ [b]) (d.size + 1)))
          ∧ (d.bytes.length = 104 →
            exec (.arxdByteReceived t b) s = .next (opened d.bytes (d.size + 1))))
        ∧ (d.last + 5 ≤ (s.advanceTo t).now →
          let u : Stamp := BitVec.ofNat 48 (d.last + 5)
          ∃ s1, s1.air.rx = none
            ∧ ((∀ g, ¬ (s.advanceTo u).hears [] g) → exec (.deliveryDropped u []) s = .next s1)
            ∧ (∀ g, (s.advanceTo u).hears [] g → exec (g.command u s.calen) s = .next s1)
            ∧ exec (.arxdByteReceived t b) s = exec (.arxdByteReceived t b) s1
            ∧ ∀ (i : Instr) (rx : List Byte), i.stamp = some t → i.delivery = some rx → rx ≠ [] →
              exec i s = exec i s1)

/-- R3 to R6: a delivery that closes and fails an acceptance test is dropped, and counted once, in the
counter of the first test it fails. -/
def Obligations.FailedDeliveryCounted : Prop :=
  ∀ (s : State) (t : Stamp) (rx : List Byte) (d : Delivery), s.vdd = true →
    (s.advanceTo t).closing rx = some d →
    let h := Header.read d.bytes
    let c := s.air.counters
    let counted := fun counters : RxCounters =>
      { s.advanceTo t with air := { rx := none, counters := counters } }
    if d.size < 8 ∨ 104 < d.size then
      exec (.deliveryDropped t rx) s =
        .next (counted { c with lengthErrors := min 65535 (c.lengthErrors + 1) })
    else if (crc (d.bytes.take (d.size - 2))).toNat ≠ natAt d.bytes (d.size - 2) 2 then
      exec (.deliveryDropped t rx) s = .next (counted { c with crcErrors := min 65535 (c.crcErrors + 1) })
    else if h.length ≠ d.size - 8 ∨ 96 < h.length then
      exec (.deliveryDropped t rx) s =
        .next (counted { c with lengthErrors := min 65535 (c.lengthErrors + 1) })
    else if h.uplink = true then
      exec (.deliveryDropped t rx) s =
        .next (counted { c with uplinkHeard := min 65535 (c.uplinkHeard + 1) })
    else if s.dcu.address = none ∨ h.fleet ≠ s.address.fleet then
      exec (.deliveryDropped t rx) s =
        .next (counted { c with foreignFleet := min 65535 (c.foreignFleet + 1) })
    else True

/-- R7 to R13, R41: an accepted delivery that is not handed on reports its site to the Link Controller and
is counted once, in the order address match, known kind, body length, neighbour class, barred filter. The match
class is that of the address kind: CAB for the cab number, GROUP for a listed group, ZONE for the current zone,
NEIGHBOUR for a zone of its neighbour set, ALL for any address.
That a telegram handed on has no effect under this row (log entry 4), and that the choice of R41, where the
report locks the link, follows the count (log entry 10), are the model's readings. -/
def Obligations.UnmatchedDeliveryCounted : Prop :=
  ∀ (s : State) (t : Stamp) (rx : List Byte) (d : Delivery), s.vdd = true →
    (s.advanceTo t).closing rx = some d → s.acceptanceFault d = none →
    let h := Header.read d.bytes
    let drop := fun c =>
      exec (.deliveryDropped t rx) s =
        .next ((s.advanceTo t).afterReport h.site (((s.advanceTo t).found h.site).countRx c))
    let zone := s.zone.zone
    let neighbours := [0, 1, 2, 3, 4, 5].map (s.directoryByte zone)
    let cls : Option MatchClass :=
      if h.addressKind = 0 then if h.address ≠ 0 ∧ h.address = s.address.cab then some .cab else none
      else if h.addressKind = 1 then
        if h.address ≠ 0 ∧ h.address ∈ s.address.groups then some .group else none
      else if h.addressKind = 2 then
        if h.address = 0 ∨ zone = 0 then none
        else if h.address = zone then some .zone
        else if h.address ∈ neighbours then some .neighbour
        else none
      else some .all
    match cls with
    | none => drop .passedBy
    | some cls =>
      match DownKind.ofCode h.kind with
      | none => drop .unknownKind
      | some k =>
        if d.body.length < k.bounds.1 ∨ k.bounds.2 < d.body.length then drop .lengthErrors
        else if cls = .neighbour ∧ k ≠ .offer then drop .passedBy
        else if s.dcu.barred = true ∧ k.passesBar = false then drop .barredDiscards
        else exec (.deliveryDropped t rx) s = .next (s.advanceTo t)

/-- R13, section 1.8: with an absent address record no downlink passes the fleet test, so every telegram command
leaves everything but the Air Receiver (and the level of CALEN) as it was; and while the cab is BARRED no
telegram of a filtered kind reaches its owner: everything but the Air Receiver, the link, the uplinks, the
notices and the level of CALEN stays as it was, where no earlier delivery is still to close before the bytes.
A level of CALEN comes with the command (log entry 6), and an earlier delivery closes before it (log
entry 4). -/
def Obligations.ClosedEarsHearNothing : Prop :=
  (∀ (i : Instr) (s : State) (t : Stamp) (rx : List Byte), s.vdd = true → i.stamp = some t →
      i.delivery = some rx → s.dcu.address = none →
      ∃ a : Air, exec i s = .next { s.advanceTo t with calen := i.calenLevel.getD s.calen, air := a })
    ∧ ∀ (i : Instr) (s : State) (t : Stamp), s.vdd = true → i.stamp = some t → i.barFiltered = true →
      s.dcu.barred = true →
      (∀ d, s.air.rx = some d → (s.advanceTo t).now < d.last + 5) ∨ i.delivery = some [] →
      ∃ (a : Air) (l : Link) (u : Uls) (c : CabPort),
        exec i s =
          .next
            { s.advanceTo t with calen := i.calenLevel.getD s.calen, air := a, link := l, uls := u, cab := c }

/-- Section 13.1, R4: the bytes of a telegram carry its header and body, and their own CRC passes. -/
def Obligations.TelegramRoundTrip : Prop :=
  ∀ (h : Header) (body : List Byte) (last : Nat), h.fleet < 4096 → h.addressKind < 4 → h.address < 4096 →
    h.site < 16 → h.kind < 256 → body.length ≤ 96 →
    let bytes := telegramBytes h body
    let d : Delivery := { bytes := bytes, size := bytes.length, last := last }
    bytes.length = body.length + 8 ∧ Header.read bytes = { h with length := body.length } ∧ d.body = body
      ∧ (crc d.checked).toNat = d.carried
/-! ## Chapter 2: channel hunting -/

/-- R21: at the expiry of the settle timer the phase becomes DWELLING and the dwell timer starts; before
it nothing changes but the timer, and a telegram heard while SETTLING has no effect on the hunt.
What comes before the deadline is the model's choice (log entry 3). -/
def Obligations.SettleExpiryStartsDwell : Prop :=
  ∀ (s : State) (t : Stamp) (deadline : Nat), s.vdd = true → s.link.mode = .hunting →
    s.link.settle = some deadline →
    let s0 := s.advanceTo t
    (deadline ≤ s0.now →
      exec (.settleExpiry t) s =
        .next
          { s0 with
            link :=
              { s.link with
                phase := .dwelling
                settle := none
                dwell := some (s0.now + 1000 * s.op.dwell) } })
      ∧ (s0.now < deadline → exec (.settleExpiry t) s = .next s0)
      ∧ ∀ site, s.link.phase = .settling → s.linkReport site = s

/-- R22, R24: what the report of an accepted telegram does in each link state and phase, and that the choice of
R41 follows its arrival exactly where the report locks the link.
That this choice comes after the hand-off of the telegram is the model's reading (log entry 10). -/
def Obligations.ReportMovesLink : Prop :=
  ∀ (s : State) (site : Nat),
    (s.link.mode = .nochan → s.linkReport site = s)
      ∧ (s.link.mode = .hunting → s.link.phase = .settling → s.linkReport site = s)
      ∧ (s.link.mode = .locked →
          s.linkReport site =
            { s with link := { s.link with silence := .running (s.now + 1000 * s.op.silence) } })
      ∧ (∀ c, s.link.mode = .hunting → s.link.phase = .dwelling → s.channels[s.link.entry]? = some c →
          (c.site = none ∨ c.site = some site →
            s.linkReport site =
              (s.setLink
                { s.link with
                  mode := .locked
                  lockedSite := some site
                  dwell := none
                  silence := .running (s.now + 1000 * s.op.silence) }).linkNotice .locked)
          ∧ (c.site ≠ none → c.site ≠ some site →
            s.linkReport site =
              { s with link := { s.link with siteMismatches := min 65535 (s.link.siteMismatches + 1) } })
          ∧ ∀ q : State,
            s.afterReport site q = if c.site = none ∨ c.site = some site then q.choose else q)
      ∧ (s.link.mode ≠ .hunting ∨ s.link.phase ≠ .dwelling → ∀ q : State, s.afterReport site q = q)

/-- R20, R23, R24, R29, R52: the expiry of the dwell timer, or of the silence timer while LOCKED, advances the
hunt; leaving LOCKED ends any access and raises a LINK notice before the advance. Before the deadline nothing
changes but the timer.
What comes before the deadline (log entry 3), that the notice shows HUNTING with the entry that was locked (log
entry 11), and bits 7 to 2 of a tune word's second byte (log entry 31) are the model's choices. -/
def Obligations.ExpiryAdvancesHunt : Prop :=
  ∀ (s : State) (t : Stamp) (deadline : Nat), s.vdd = true →
    let s0 := s.advanceTo t
    (s.link.mode = .hunting → s.link.dwell = some deadline →
        (deadline ≤ s0.now → exec (.dwellExpiry t) s = .next (s0.setLink s0.huntsOn))
        ∧ (s0.now < deadline → exec (.dwellExpiry t) s = .next s0))
      ∧ (s.link.mode = .locked → s.link.silence = .running deadline →
        let q := s0.endAccess.setLink { s0.endAccess.link with mode := .hunting, lockedSite := none }
        let c := s.channels[s.link.entry]?
        let notice := q.raise .link 1
          (be 1 1 ++ optional 1 (c.map (fun _ => s.link.entry)) ++ optional 2 (c.map (fun c => c.number))
            ++ optional 1 (c.map (fun c => c.role.code)) ++ [0, 0])
        (deadline ≤ s0.now → exec (.silenceExpiry t) s = .next (notice.setLink q.huntsOn))
        ∧ (s0.now < deadline → exec (.silenceExpiry t) s = .next s0))

/-- R20, R26, R41, R52: a SITE BEACON with status CLOSING whose site is the locked site makes the link leave
LOCKED: any access ends, a LINK notice is raised, and the hunt advances, with no tune word left pending; any
other beacon has no effect beyond its report and the choice of a lock it makes.
That the notice shows HUNTING with the entry that was locked (log entry 11), that the choice of R41 follows the
hand-off (log entry 10), and bits 7 to 2 of a tune word's second byte (log entry 31) are the model's readings. -/
def Obligations.ClosingSiteIsLeft : Prop :=
  ∀ (s : State) (t : Stamp) (rx : List Byte) (g : Telegram), s.vdd = true →
    (s.advanceTo t).hears rx g → g.kind = .siteBeacon →
    let s1 := (s.advanceTo t).found g.site
    let q := s1.endAccess.setLink { s1.endAccess.link with mode := .hunting, lockedSite := none }
    (byteAt g.body 0 = 1 ∧ s1.link.mode = .locked ∧ s1.link.lockedSite = some g.site →
        exec (.siteBeacon t rx) s = .next ((q.linkNotice .unlocked).setLink q.huntsOn)
          ∧ q.huntsOn.tunePending = false)
      ∧ (byteAt g.body 0 ≠ 1 ∨ s1.link.mode ≠ .locked ∨ s1.link.lockedSite ≠ some g.site →
        exec (.siteBeacon t rx) s = .next ((s.advanceTo t).afterReport g.site s1))

/-! ## Chapter 3: uplink queue and channel access -/

/-- R42, R48, R51: the air time is the least whole number of milliseconds that the bits of the telegram take at the
air bit rate of the operating record in force. The reservation tests at a choice and at the end of a backoff
use the air time of the item itself: a queue entry's from its body, a TRIP REPORT's from 60 body bytes, a
BEACON's from 19. The start test of a BID and the length of a transmission use it too.
That the start test reads no slot length is the model's reading (log entry 32). -/
def Obligations.AirTimeOfTelegram : Prop :=
  (∀ rate bytes : Nat, 0 < rate →
      (48 + 8 * (6 + bytes + 2)) * 1000 ≤ airTime rate bytes * rate
        ∧ airTime rate bytes * rate < (48 + 8 * (6 + bytes + 2)) * 1000 + rate)
    ∧ [airTime 4800 0, airTime 2400 0, airTime 1200 0] = [24, 47, 94]
    ∧ [airTime 4800 6, airTime 2400 6, airTime 1200 6] = [34, 67, 134]
    ∧ [airTime 4800 96, airTime 2400 96, airTime 1200 96] = [184, 367, 734]
    ∧ (∀ (s : State) (bytes : Nat),
        s.airTime bytes = airTime (match s.dcu.operating with | some v => v.table.bitRate | none => 4800) bytes)
    ∧ (∀ (s : State) (item : TxItem) (kind : Nat) (body : List Byte),
        ∃ tx, (s.key item kind body).uls.sched = .onAir tx ∧ tx.ends = s.now + s.airTime body.length)
    ∧ (∀ (s : State) (r : TripRecord), (tripReportBody r).length = 60 ∧ (beaconBody s).length = 19)
    ∧ (∀ (s : State) (i : Item), i ∈ s.items →
        s.fitsNow i = s.uls.fits (s.now + s.op.clear + i.air)
          ∧ (∀ k, i.pick = .entry k → ∃ e, s.uls.queue[k]? = some e ∧ i.air = s.airTime e.body.length)
          ∧ (i.pick = .trip → i.air = s.airTime 60) ∧ (i.pick = .beacon → i.air = s.airTime 19))
    ∧ (∀ (s : State) (cand : Cand),
        let bytes : Option Nat := match cand with
          | .entry => (s.uls.queue.find? (fun e => e.mark == .candidate)).map (fun e => e.body.length)
          | .trip => s.trips.candidate.map (fun _ => 60)
          | .beacon => s.emu.beacon.map (fun _ => 19)
        s.finishBackoff cand =
          match bytes with
          | some n => if s.uls.fits (s.now + s.airTime n) then s.startCand cand else s.endAccess
          | none => s.endAccess)
    ∧ ∀ (s : State) (e : Entry) (b : BidTimes),
        s.bidMayStart e b = true ↔
          s.ptt = false ∧ s.cd = false ∧ b.release + s.airTime e.body.length ≤ b.deadline

/-- R34 to R36, R47: a new entry joins the end of the queue; from a full queue it displaces the latest entry of
the lowest level when that level is lower than its own, and is dropped otherwise; an access goes on unless the
displaced entry is its candidate; a ZONE CHANGE or TOTALS REPORT takes the place of the body of a waiting one.
That one choice follows a displacement and its join together is the model's reading (log entry 10). -/
def Obligations.UplinkJoinsQueue : Prop :=
  ∀ (s : State) (kind : UplinkKind) (body : List Byte) (bid : Option BidTimes),
    let q := s.uls.queue
    let e : Entry :=
      { kind := kind, level := (s.op.params kind).level, attempts := 0, join := s.now, body := body,
        bid := bid, mark := .waiting }
    let fresh := kind.single = false ∨ ∀ x ∈ q, x.kind ≠ kind
    (fresh → q.length < 12 →
        s.join kind body bid =
          { state := (s.setUls { s.uls with queue := q ++ [e] }).choose, joined := true })
      ∧ (fresh → 12 ≤ q.length → (∀ x ∈ q, x.mark ≠ .onAir → e.level ≤ x.level) →
        s.join kind body bid =
          { state := s.setUls { s.uls with displaced := min 65535 (s.uls.displaced + 1) }, joined := false })
      ∧ (∀ front x back, fresh → 12 ≤ q.length → q = front ++ x :: back → x.mark ≠ .onAir →
        x.level < e.level →
        (∀ y ∈ front, y.mark ≠ .onAir → x.level ≤ y.level) →
        (∀ y ∈ back, y.mark ≠ .onAir → x.level < y.level) →
        (x.mark = .candidate → ∀ y ∈ front ++ back, y.mark ≠ .candidate) →
        let ends := x.mark = .candidate ∧ s.uls.sched.inAccess = true
        s.join kind body bid =
          { state :=
              (s.setUls
                { s.uls with
                  queue := front ++ back ++ [e]
                  displaced := min 65535 (s.uls.displaced + 1)
                  sched := if ends then .idle else s.uls.sched }).choose
            joined := true })
      ∧ (∀ front x back, kind.single = true → q = front ++ x :: back → x.kind = kind → x.mark = .onAir →
        (∀ y ∈ front ++ back, y.kind ≠ kind) → q.length ≤ 12 →
        s.join kind body bid =
          { state := (s.setUls { s.uls with queue := front ++ back ++ [e] }).choose, joined := true })
      ∧ ∀ front x back, kind.single = true → q = front ++ x :: back → x.kind = kind → x.mark ≠ .onAir →
        (∀ y ∈ front, y.kind = kind → y.mark = .onAir) →
        s.join kind body bid =
          { state := (s.setUls { s.uls with queue := front ++ { x with body := body } :: back }).choose
            joined := true }

/-- R40 to R45: when the scheduler is IDLE and the link LOCKED, the first item in rank order that fits the
reservation becomes the candidate of an access in CLEARING: its clear timer starts when CD is low, and with a
clear time of 0 it is in BACKOFF at once. With no item that fits, in any other state or with the link not
LOCKED, nothing changes. A transmission fits when it ends no later than the release time of every queued BID
whose release is still to come.
That a release is to come until its event is taken, for a BID that waits and is not held, is the model's reading
(log entry 9). -/
def Obligations.ChoiceTakesFirstRanked : Prop :=
  (∀ (u : Uls) (ending : Nat),
      u.fits ending = true ↔
        ∀ e ∈ u.queue, ∀ b, e.bid = some b → e.mark = .waiting → b.held = false → ending ≤ b.release)
    ∧ (∀ (s : State) (i : Item), s.fitsNow i = s.uls.fits (s.now + s.op.clear + i.air))
    ∧ ∀ s : State,
    (s.uls.sched ≠ .idle ∨ s.link.mode ≠ .locked ∨ (∀ i ∈ s.items, s.fitsNow i = false) → s.choose = s)
      ∧ ∀ (n : Nat) (i : Item), s.uls.sched = .idle → s.link.mode = .locked → s.items[n]? = some i →
        s.fitsNow i = true →
        (∀ (m : Nat) (j : Item), s.items[m]? = some j → s.fitsNow j = true →
          (m < n → j.level < i.level ∨ (j.level = i.level ∧ i.join < j.join))
            ∧ (n < m → j.level < i.level ∨ (j.level = i.level ∧ i.join ≤ j.join))) →
        let begun := fun (q : State) (cand : Cand) =>
          if s.cd then q.setUls { q.uls with sched := .clearing cand none }
          else if s.op.clear ≠ 0 then
            q.setUls { q.uls with sched := .clearing cand (some (s.now + s.op.clear)) }
          else
            let window := max s.op.minWindow (min s.uls.window s.op.maxWindow)
            let rng := (s.uls.rng * 25173 + 13849) % 65536
            let r := rng / 256 % window
            let backoff := q.setUls
              { q.uls with window := window, rng := rng, sched := .backoff cand (s.now + r * s.op.slot) }
            if r = 0 then backoff.finishBackoff cand else backoff
        match i.pick with
        | .entry k =>
          s.choose =
            begun
              (s.setUls
                { s.uls with queue := s.uls.queue.modify k (fun e => { e with mark := .candidate }) })
              .entry
        | .trip => s.choose = begun s .trip
        | .beacon => s.choose = begun s .beacon

/-- R43 to R46: CD. A fall starts the clear timer of an access that waits for it, or with a clear time of 0
begins its BACKOFF. A rise while the clear timer runs or in BACKOFF is a busy channel: the candidate's attempt
is counted and the entry dropped beyond its limit, the window doubles up to the maximum, and a new choice is
made. At any other time CD has no effect beyond its level.
That the doubling starts from the window as it stands, with no minimum applied there, is the model's choice (log
entry 33). -/
def Obligations.CarrierDetectEdges : Prop :=
  ∀ (s : State) (t : Stamp), s.vdd = true →
    let s0 := s.advanceTo t
    let waits := match s.uls.sched with | .clearing _ none => true | _ => false
    let busy := match s.uls.sched with | .clearing _ (some _) => true | .backoff _ _ => true | _ => false
    let window := min (2 * s.uls.window) s.op.maxWindow
    (waits = false → exec (.cdFall t) s = .next (s0.setCd false))
      ∧ (∀ cand, s.uls.sched = .clearing cand none →
        (s.op.clear ≠ 0 →
          exec (.cdFall t) s =
            .next
              ((s0.setCd false).setUls
                { s.uls with sched := .clearing cand (some (s0.now + s.op.clear)) }))
        ∧ (s.op.clear = 0 →
          let clamped := max s.op.minWindow (min s.uls.window s.op.maxWindow)
          let rng := (s.uls.rng * 25173 + 13849) % 65536
          let r := rng / 256 % clamped
          let backoff := (s0.setCd false).setUls
            { s.uls with window := clamped, rng := rng, sched := .backoff cand (s0.now + r * s.op.slot) }
          (r ≠ 0 → exec (.cdFall t) s = .next backoff)
            ∧ (r = 0 → exec (.cdFall t) s = exec (.backoffEnd t) backoff)))
      ∧ (busy = false → exec (.cdRise t) s = .next (s0.setCd true))
      ∧ (busy = true → (∀ e ∈ s.uls.queue, e.mark ≠ .candidate) →
        exec (.cdRise t) s =
          .next ((s0.setCd true).setUls { s.uls with window := window, sched := .idle }).choose)
      ∧ ∀ front e back, busy = true → s.uls.queue = front ++ e :: back → e.mark = .candidate →
        (∀ x ∈ front ++ back, x.mark ≠ .candidate) →
        let limit := (s.op.params e.kind).limit
        (limit = 0 ∨ e.attempts + 1 ≤ limit →
          exec (.cdRise t) s =
            .next
              ((s0.setCd true).setUls
                { s.uls with
                  queue := front ++ { e with attempts := e.attempts + 1, mark := .waiting } :: back
                  window := window
                  sched := .idle }).choose)
        ∧ (limit ≠ 0 → limit < e.attempts + 1 →
          exec (.cdRise t) s =
            .next
              ((s0.setCd true).setUls
                { s.uls with
                  queue := front ++ back
                  window := window
                  drops := min 65535 (s.uls.drops + 1)
                  sched := .idle }).choose)

/-- R38, R39, R42 to R45, R47: the clear timer's expiry with CD low clamps the window, takes one draw and
enters BACKOFF for the remainder of the draw in slots; a remainder of 0 ends it at once. At the end of the
backoff the candidate that fits the reservation is sent, and otherwise, or where the candidate is gone, the
access ends and a choice follows.
What comes before a deadline is the model's choice (log entry 3). -/
def Obligations.BackoffFollowsClearTime : Prop :=
  ∀ (s : State) (t : Stamp) (cand : Cand), s.vdd = true →
    let s0 := s.advanceTo t
    let window := max s.op.minWindow (min s.uls.window s.op.maxWindow)
    let rng := (s.uls.rng * 25173 + 13849) % 65536
    let r := rng / 256 % window
    let backoff := s0.setUls
      { s.uls with window := window, rng := rng, sched := .backoff cand (s0.now + r * s.op.slot) }
    (∀ deadline, s.uls.sched = .clearing cand (some deadline) →
        (s0.now < deadline ∨ s.cd = true → exec (.clearTimerExpiry t) s = .next s0)
        ∧ (deadline ≤ s0.now → s.cd = false → r ≠ 0 → exec (.clearTimerExpiry t) s = .next backoff)
        ∧ (deadline ≤ s0.now → s.cd = false → r = 0 →
          exec (.clearTimerExpiry t) s = exec (.backoffEnd t) backoff))
      ∧ (∀ ends, s.uls.sched = .backoff cand ends →
        (s0.now < ends → exec (.backoffEnd t) s = .next s0)
        ∧ (s.candBytes cand = none → ends ≤ s0.now → exec (.backoffEnd t) s = .next s0.endAccess.choose)
        ∧ ∀ bytes, s.candBytes cand = some bytes → ends ≤ s0.now →
          (s.uls.fits (s0.now + s.airTime bytes) = true →
            exec (.backoffEnd t) s = .next (s0.startCand cand) ∧ (s0.startCand cand).ptt = true)
          ∧ (s.uls.fits (s0.now + s.airTime bytes) = false →
            exec (.backoffEnd t) s = .next s0.endAccess.choose))

/-- R50, R2, R25: a transmission starts: PTT is asserted, the telegram with the header of R50 goes out, the
open delivery is abandoned and the silence timer stops with the time left. -/
def Obligations.TransmissionStarts : Prop :=
  ∀ (s : State) (item : TxItem) (kind : Nat) (body : List Byte) (front back : List Entry) (e : Entry),
    let sent := fun (s : State) (item : TxItem) (kind : Nat) (body : List Byte) =>
      ((s.setUls
          { s.uls with
            sched := .onAir
              { item := item
                ends := s.now + s.airTime body.length
                bytes := telegramBytes
                  { fleet := s.address.fleet, addressKind := 0, uplink := true, address := s.address.cab,
                    site := s.link.lockedSite.getD 0, kind := kind, length := body.length } body } }).setAir
        { s.air with rx := none }).setLink
        { s.link with
          silence := match s.link.silence with
            | .running deadline => .paused (deadline - s.now)
            | other => other }
    s.key item kind body = sent s item kind body
      ∧ (s.uls.queue = front ++ e :: back → e.mark = .candidate → (∀ x ∈ front, x.mark ≠ .candidate) →
        s.startCand .entry =
          sent (s.setUls { s.uls with queue := front ++ { e with mark := .onAir } :: back }) .entry e.kind.code
            e.body)
      ∧ (∀ h, s.trips.candidate = some h →
        s.startCand .trip = sent s (.trip h.record.sequence) 0xC0 (tripReportBody h.record))
      ∧ s.startCand .beacon = sent s .beacon 0xB0 (beaconBody s)

/-- R20, R25, R50, R80, R143, R180: a transmission whose air time has run completes: PTT is released, the
silence timer goes on, a pending tune word is sent, the window returns to the minimum, the item leaves the
queue or its owner is told, and a choice follows: a BID's held ACCEPTED offer becomes BID-SENT, a reported trip
REPORTED, and a beacon of a call counts and falls due again. Before its end it runs on.
What comes before the end (log entry 3), and bits 7 to 2 of a tune word's second byte (log entry 31), are the
model's choices. -/
def Obligations.TransmissionCompletes : Prop :=
  ∀ (s : State) (t : Stamp) (tx : Transmission), s.vdd = true → s.uls.sched = .onAir tx →
    let s0 := s.advanceTo t
    let silence := match s.link.silence with
      | .paused left => SilenceTimer.running (s0.now + left)
      | other => other
    let link :=
      if s.link.tunePending then
        { s.link with
          silence := silence
          tunePending := false
          tuneWord := some (0xA5 :: be 2 (((s.channels[s.link.entry]?).map (fun c => c.number)).getD 0 % 1024))
          settle := some (s0.now + s.op.settle) }
      else { s.link with silence := silence }
    let s1 := (s0.setLink link).setUls { s.uls with window := s.op.minWindow, sched := .idle }
    (s0.now < tx.ends → exec (.transmissionComplete t) s = .next s0)
      ∧ (tx.ends ≤ s0.now →
        (tx.item = .entry → (∀ e ∈ s.uls.queue, e.mark ≠ .onAir) →
          exec (.transmissionComplete t) s = .next s1.choose)
        ∧ (∀ front e back, tx.item = .entry → s.uls.queue = front ++ e :: back → e.mark = .onAir →
          (∀ x ∈ front ++ back, x.mark ≠ .onAir) →
          let s2 := s1.setUls { s1.uls with queue := front ++ back }
          (e.bid = none → exec (.transmissionComplete t) s = .next s2.choose)
          ∧ (∀ b, e.bid = some b → s.offers.find b.offer = none →
            exec (.transmissionComplete t) s = .next s2.choose)
          ∧ ∀ b o, e.bid = some b → s.offers.find b.offer = some o →
            (o.state = .accepted →
              exec (.transmissionComplete t) s =
                .next
                  ((s2.setOffers (s.offers.put { o with state := .bidSent })).offerNotice .bidSent o
                    (some .bidSent)).choose)
            ∧ (o.state ≠ .accepted → exec (.transmissionComplete t) s = .next s2.choose))
        ∧ (∀ n, tx.item = .trip n →
          exec (.transmissionComplete t) s = .next (s1.setTrips (s.trips.markReported n true)).choose)
        ∧ (tx.item = .beacon → s.emu.inCall = false → exec (.transmissionComplete t) s = .next s1.choose)
        ∧ (tx.item = .beacon → s.emu.inCall = true →
          let interval := if s.emu.state = .active then s.op.beaconInterval else s.op.trackingInterval
          let count := min 65535 (s.emu.beacons + 1)
          let s2 := s1.setEmu { s.emu with beacons := count, beacon := some (s0.now + 1000 * interval) }
          exec (.transmissionComplete t) s =
            .next
              (if s.emu.covert then s2 else s2.emergencyNotice .beaconSent s.emu.state s.emu.episode count).choose))

/-- R47 to R49: the earliest due release takes its BID, a completion that is due being made first: with the
link LOCKED any access ends, and the BID starts when nothing is on air, CD is low and its air time fits before
the deadline, or is lost; with the link not LOCKED it stays queued, unsent. At its deadline a BID that has not
started is lost. An access that ends so leaves its candidate waiting.
That a slot stays protected until its release is taken (log entry 9), which BID a command takes (log entry 28),
what comes before a deadline (log entry 3), and that the start test reads no slot length (log entry 32) are the
model's choices. -/
def Obligations.BidTakesItsSlot : Prop :=
  (∀ q : State,
      (q.uls.sched.inAccess = false → q.endAccess = q)
      ∧ (q.uls.sched.inAccess = true → (∀ x ∈ q.uls.queue, x.mark ≠ .candidate) →
        q.endAccess = q.setUls { q.uls with sched := .idle })
      ∧ ∀ front x back, q.uls.sched.inAccess = true → q.uls.queue = front ++ x :: back →
        x.mark = .candidate → (∀ y ∈ front, y.mark ≠ .candidate) →
        q.endAccess =
          q.setUls { q.uls with queue := front ++ { x with mark := .waiting } :: back, sched := .idle })
    ∧ ∀ (s : State) (t : Stamp) (front back : List Entry) (e : Entry) (b : BidTimes), s.vdd = true →
      s.uls.queue = front ++ e :: back → e.bid = some b →
      let s0 := s.advanceTo t
      let lost := s0.setUls { s.uls with queue := front ++ back, bidsLost := min 65535 (s.uls.bidsLost + 1) }
      (e.mark = .waiting → b.held = false → b.release ≤ s0.now →
          (∀ x ∈ front, ∀ r, x.toCome = some r → b.release < r) →
          (∀ x ∈ back, ∀ r, x.toCome = some r → b.release ≤ r) →
          (∀ tx s', s.uls.sched = .onAir tx → tx.ends ≤ s0.now → 0 < s.op.bitRate →
            exec (.transmissionComplete t) s = .next s' →
            exec (.bidRelease t) s = exec (.bidRelease t) s')
          ∧ ((∀ tx, s.uls.sched = .onAir tx → s0.now < tx.ends) →
            (s.link.mode = .locked → s.ptt = false → s.cd = false →
              b.release + s.airTime e.body.length ≤ b.deadline →
              exec (.bidRelease t) s =
                .next
                  ((s0.setUls
                      { s.uls with
                        queue := front ++ { e with mark := .onAir } :: back }).endAccess.key .entry
                    e.kind.code e.body))
            ∧ (s.link.mode = .locked →
              s.ptt = true ∨ s.cd = true ∨ b.deadline < b.release + s.airTime e.body.length →
              exec (.bidRelease t) s = .next lost.endAccess.choose)
            ∧ (s.link.mode ≠ .locked →
              exec (.bidRelease t) s =
                .next
                  (s0.setUls
                    { s.uls with
                      queue := front ++ { e with bid := some { b with held := true } } :: back }))))
        ∧ ((∀ x ∈ s.uls.queue, ∀ r, x.toCome = some r → s0.now < r) → exec (.bidRelease t) s = .next s0)
        ∧ (e.mark ≠ .onAir → b.deadline ≤ s0.now →
          (∀ x ∈ front, ∀ c, x.bid = some c → x.mark = .onAir ∨ s0.now < c.deadline) →
          exec (.bidDeadline t) s = .next lost.choose)
        ∧ ((∀ x ∈ s.uls.queue, ∀ c, x.bid = some c → x.mark = .onAir ∨ s0.now < c.deadline) →
          exec (.bidDeadline t) s = .next s0)

/-- R33: a transmission in progress is ended by no command but its completion, due at its end, a power-on
and the loss of main power; a completion due is also made by a BID's release (R48).
A completion that comes before the end has no effect by the model's choice (log entry 3). -/
def Obligations.TransmissionNotCutShort : Prop :=
  ∀ (i : Instr) (s s' : State) (tx : Transmission), s.uls.sched = .onAir tx → exec i s = .next s' →
    i ≠ .powerOn → i ≠ .lossOfMainPower →
    (∀ t, i = .transmissionComplete t ∨ i = .bidRelease t → (s.advanceTo t).now < tx.ends) →
    s'.uls.sched = .onAir tx

/-- R52: every step keeps an access in progress, in CLEARING or BACKOFF, only while the link is LOCKED. -/
def Obligations.StepKeepsAccessLocked : Prop :=
  ∀ s s' : State, s.AccessLocked → step s = .next s' → s'.AccessLocked
/-! ## Chapters 4 to 6: zones, offers and jobs -/

/-- R57, R60 to R64: a position report. A report with a fix in range sets the cell and the zone of the map,
and reports a changed zone; one without a fix sets the stale flag; one out of range is refused. -/
def Obligations.PositionReportMovesZone : Prop :=
  ∀ (s : State) (t : Stamp) (row col noFix : Byte), s.takes →
    let s0 := s.advanceTo t
    let zone := (s.dcu.zoneMap.map (fun v => (v.table.read (row.toNat * 64 + col.toNat)).toNat)).getD 0
    let fields := fun (z : Nat) (stale queued : Bool) =>
      [be 1 z, [flagByte (s.directoryByte z 7 = 1)], be 1 (s.directoryByte z 6), [flagByte stale],
       [flagByte queued]]
    let fixed : ZoneUnit := { cell := some { row := row.toNat, col := col.toNat }, stale := false, zone := zone }
    let reports := zone ≠ s.zone.zone ∧ zone ≠ 0 ∧ s.meter.mode = .vacant ∧ s.dcu.barred = false
      ∧ s.op.zoneReporting = true
    let joined := (s0.toHunt.setZone fixed).join .zoneChange (be 1 zone ++ [s.address.attributes]) none
    (noFix ≠ 0 →
        exec (.position t row col noFix) s =
          .next
            ((s0.setZone { s.zone with stale := true }).replied 0x01 .done (fields s.zone.zone true false)))
      ∧ (noFix = 0 → 63 < row.toNat ∨ 63 < col.toNat →
        exec (.position t row col noFix) s = .next (s0.replied 0x01 .argument []))
      ∧ (noFix = 0 → row.toNat ≤ 63 → col.toNat ≤ 63 → ¬ reports →
        exec (.position t row col noFix) s =
          .next ((s0.setZone fixed).replied 0x01 .done (fields zone false false)))
      ∧ (noFix = 0 → row.toNat ≤ 63 → col.toNat ≤ 63 → reports →
        exec (.position t row col noFix) s =
          .next (joined.state.respond 0x01 .done (fields zone false joined.joined)))

/-- R41, R69 to R73: an OFFER out of range or not eligible is counted as passed, a repeat has no effect, and an
eligible one joins the table with its marks; in a full table it displaces the OFFERED entry with the
earliest decision deadline, or is itself counted as displaced when none is OFFERED.
Where the report locks the link, the choice of R41 follows the hand-off: the model's reading (log entry 10). -/
def Obligations.OfferJoinsTable : Prop :=
  ∀ (s : State) (t : Stamp) (rx : List Byte) (g : Telegram), s.vdd = true →
    (s.advanceTo t).hears rx g → g.kind = .offer →
    let s1 := (s.advanceTo t).found g.site
    let ended := (s.advanceTo t).afterReport g.site
    let o := OfferBody.read g.body
    let decision := s1.now + 1000 * o.decision
    let e : OfferEntry :=
      { number := o.number, kind := o.kind, zone := o.zone, reach := o.reach, required := o.required,
        price := o.price, pickupTime := o.pickupTime, summary := s1.expand 40 80 o.codes,
        decision := decision, slot := s1.op.slot, window := o.window,
        lapse := decision + o.window * s1.op.slot + 1000 * s1.op.awardWait, state := .offered }
    let passed := s1.setOffers { s1.offers with passed := min 65535 (s1.offers.passed + 1) }
    let reached := o.zone = s1.zone.zone ∨ (o.reach = true ∧ o.zone ∈ s1.neighbours s1.zone.zone)
    let eligible := s1.dcu.barred = false ∧ s1.meter.mode ≠ .offShift ∧ s1.emu.overtCall = false
      ∧ o.required &&& s1.address.attributes = o.required ∧ s1.zone.zone ≠ 0 ∧ reached
      ∧ (g.cls = .neighbour → o.reach = true)
      ∧ (o.kind = .street → s1.meter.mode = .vacant ∧ s1.jobs.active = none)
    let held := ∃ x ∈ s1.offers.table, x.number = o.number
    let displaced := min 65535 (s1.offers.displaced + 1)
    (o.inRange = false → exec (.offer t rx) s = .next (ended passed))
      ∧ (o.inRange = true → held → exec (.offer t rx) s = .next (ended s1))
      ∧ (o.inRange = true → ¬ held → ¬ eligible → exec (.offer t rx) s = .next (ended passed))
      ∧ (o.inRange = true → ¬ held → eligible → s1.offers.table.length < 6 →
        exec (.offer t rx) s =
          .next
            (ended ((s1.setOffers { s1.offers with table := s1.offers.table ++ [e] }).offerNotice .new e
              (some .offered))))
      ∧ (o.inRange = true → ¬ held → eligible → 6 ≤ s1.offers.table.length →
        (∀ x ∈ s1.offers.table, x.state ≠ .offered) →
        exec (.offer t rx) s = .next (ended (s1.setOffers { s1.offers with displaced := displaced })))
      ∧ ∀ front x back, o.inRange = true → ¬ held → eligible → 6 ≤ s1.offers.table.length →
        s1.offers.table = front ++ x :: back → x.state = .offered →
        (∀ y ∈ front, y.state = .offered → x.decision < y.decision) →
        (∀ y ∈ back, y.state = .offered → x.decision ≤ y.decision) →
        (∀ y ∈ front ++ back, y.number ≠ x.number) →
        let s2 := (s1.setOffers
          { s1.offers with table := front ++ back, displaced := displaced }).offerNotice .displaced x none
        exec (.offer t rx) s =
          .next
            (ended ((s2.setOffers
                { s1.offers with
                  table := front ++ back ++ [e]
                  displaced := displaced }).offerNotice .new e (some .offered)))

/-- R76 to R78: the tests of an ACCEPT in order; one that passes makes the entry ACCEPTED, and outside a
covert call takes one draw for its slot and queues the BID.
That an entry whose decision deadline is reached stays when its ACCEPT is refused is the model's choice (log
entry 27). -/
def Obligations.AcceptQueuesBid : Prop :=
  ∀ (s : State) (t : Stamp) (n : Half), s.takes →
    let s0 := s.advanceTo t
    let refused := fun code => exec (.accept t n) s = .next (s0.replied 0x02 code [])
    let pledged := fun k => s.offers.table.countP (fun x => x.kind == k && x.state != .offered)
    if n = 0 then refused .argument
    else if s.dcu.barred then refused .barred
    else if s.emu.overtCall then refused .emergency
    else
      match s.offers.find n.toNat with
      | none => refused .state
      | some e =>
        let accepted := s.offers.put { e with state := .accepted }
        let rng := (s.uls.rng * 25173 + 13849) % 65536
        let slot := rng / 256 % e.window
        let release := e.decision + slot * e.slot
        let bid : BidTimes :=
          { offer := e.number, release := release, deadline := release + e.slot, held := false }
        let body := be 2 e.number ++ be 2 s.zone.zone ++ [s.address.attributes] ++ be 1 slot
        let s1 := (s0.toHunt.setOffers accepted).setUls { s.uls with rng := rng }
        if e.state ≠ .offered ∨ e.decision ≤ s0.now then refused .state
        else if e.kind = .street ∧ 0 < pledged .street then refused .full
        else if e.kind = .street ∧ (s.meter.mode ≠ .vacant ∨ s.jobs.active ≠ none) then refused .state
        else if e.kind = .prebook ∧ 2 ≤ s.jobs.queued.length + pledged .prebook then refused .full
        else if s.emu.covertCall then
          exec (.accept t n) s = .next ((s0.setOffers accepted).replied 0x02 .done [])
        else
          exec (.accept t n) s = .next ((s1.join .bid body (some bid)).state.respond 0x02 .done [])

/-- R37, R41, R74, R75, R79, R81: how an offer entry leaves: DECLINE and WITHDRAW take its waiting BID with it,
the decision deadline removes it while OFFERED, the lapse time when ACCEPTED or BID-SENT.
What comes before a deadline is the model's choice (log entry 3).
Where the report locks the link, the choice of R41 follows the hand-off: the model's reading (log entry 10). -/
def Obligations.OfferLeavesTable : Prop :=
  ∀ (s : State) (t : Stamp) (n : Half),
    let s0 := s.advanceTo t
    let left := fun (s : State) =>
      { s.offers with table := s.offers.table.filter (fun x => x.number != n.toNat) }
    (∀ (q : State) (k : Nat), (∀ x ∈ q.uls.queue, x.bidFor k = true → x.mark ≠ .candidate) →
        q.removeBid k =
          if q.uls.queue.any (Entry.bidFor k) then
            (q.setUls
              { q.uls with queue := q.uls.queue.filter (fun x => !x.bidFor k) }).choose
          else q)
      ∧ (s.takes →
        (n = 0 → exec (.decline t n) s = .next (s0.replied 0x03 .argument []))
        ∧ (n ≠ 0 → s.offers.find n.toNat = none →
          exec (.decline t n) s = .next (s0.replied 0x03 .state []))
        ∧ ∀ e, n ≠ 0 → s.offers.find n.toNat = some e →
          exec (.decline t n) s =
            .next (((s0.toHunt.removeBid n.toNat).setOffers (left s)).respond 0x03 .done []))
      ∧ (∀ rx g, s.vdd = true → s0.hears rx g → g.kind = .withdraw → natAt g.body 0 2 = n.toNat →
        let s1 := s0.found g.site
        let ended := s0.afterReport g.site
        (s1.offers.find n.toNat = none → exec (.withdraw t rx) s = .next (ended s1))
        ∧ ∀ e, s1.offers.find n.toNat = some e →
          exec (.withdraw t rx) s =
            .next (ended (((s1.removeBid n.toNat).setOffers (left s1)).offerNotice .withdrawn e none)))
      ∧ (∀ e, s.vdd = true → s.offers.find n.toNat = some e →
        let gone := (s0.setOffers (left s)).offerNotice .lapsed e none
        (e.state = .offered → e.decision ≤ s0.now → exec (.decisionDeadline t n) s = .next gone)
        ∧ (e.state ≠ .offered ∨ s0.now < e.decision → exec (.decisionDeadline t n) s = .next s0)
        ∧ (e.state ≠ .offered → e.lapse ≤ s0.now → exec (.lapseTime t n) s = .next gone)
        ∧ (e.state = .offered ∨ s0.now < e.lapse → exec (.lapseTime t n) s = .next s0))
      ∧ (s.vdd = true → s.offers.find n.toNat = none →
        exec (.decisionDeadline t n) s = .next s0 ∧ exec (.lapseTime t n) s = .next s0)

/-- R41, R82 to R84, R94, R96 to R98: what an AWARD and an ASSIGN do: the refusals with their reasons, and the
placement: a repeat, ACTIVE for a STREET job with the place empty and the meter VACANT, QUEUED with at most
two queued (moving up when it can), or BOOK FULL.
The two effects of an AWARD at the lapse time are read as log entry 28 says, and that the PLACED notice of a job
about to move up shows QUEUED as log entry 13.
Where the report locks the link, the choice of R41 follows the hand-off: the model's reading (log entry 10). -/
def Obligations.AwardAndAssignPlaceJobs : Prop :=
  ∀ (s : State) (t : Stamp) (rx : List Byte) (g : Telegram), s.vdd = true → (s.advanceTo t).hears rx g →
    let s1 := (s.advanceTo t).found g.site
    let ended := (s.advanceTo t).afterReport g.site
    let refuse := fun (s : State) (offer job reason : Nat) =>
      s.queue .awardRefusal (be 2 offer ++ be 2 job ++ be 1 reason)
    let place := fun (s : State) (offer : Nat) (j : Job) =>
      let up := (s.setJobs { s.jobs with active := some j }).jobNotice .placed j (some true)
      let back := (s.setJobs { s.jobs with queued := s.jobs.queued ++ [j] }).jobNotice .placed j (some false)
      if s.jobs.holds j.number then s
      else if j.kind = .street ∧ s.jobs.active = none ∧ s.meter.mode = .vacant then up
      else if s.jobs.queued.length < 2 then
        match s.jobs.active, s.jobs.queued ++ [j] with
        | none, k :: rest =>
          if s.meter.mode = .vacant then
            (back.setJobs { active := some k, queued := rest }).jobNotice .promoted k (some true)
          else back
        | _, _ => back
      else refuse s offer j.number 0
    (g.kind = .award →
        let a := AwardBody.read g.body
        let job := fun (s : State) (zone : Nat) =>
          { number := a.job, source := .award, offer := some a.offer, kind := a.kind, zone := zone,
            text := s.expand 80 120 a.codes, account := a.account, price := a.price,
            pickupTime := a.pickupTime, state := .assigned, placed := s.now, arrived := none : Job }
        let left := { s1.offers with table := s1.offers.table.filter (fun x => x.number != a.offer) }
        exec (.award t rx) s =
          .next
            (ended (if a.inRange = false then s1
            else if s1.dcu.barred then refuse s1 a.offer a.job 1
            else if s1.emu.overtCall then refuse s1 a.offer a.job 2
            else
              match s1.offers.find a.offer with
              | none => refuse s1 a.offer a.job 3
              | some e =>
                if e.lapse ≤ s1.now then
                  ((refuse s1 a.offer a.job 3).setOffers left).offerNotice .lapsed e none
                else
                  let s2 := ((s1.removeBid a.offer).setOffers left).offerNotice .awarded e none
                  place s2 a.offer (job s2 e.zone))))
      ∧ (g.kind = .assign →
        let a := AssignBody.read g.body
        let job : Job :=
          { number := a.job, source := .assign, offer := none, kind := a.kind, zone := a.zone,
            text := s1.expand 80 120 a.codes, account := a.account, price := a.price,
            pickupTime := a.pickupTime, state := .assigned, placed := s1.now, arrived := none }
        exec (.assign t rx) s =
          .next
            (ended (if a.inRange = false ∨ s1.jobs.holds a.job = true then s1
            else if s1.dcu.barred then refuse s1 0 a.job 1
            else if s1.emu.overtCall then refuse s1 0 a.job 2
            else if s1.meter.mode = .offShift then refuse s1 0 a.job 4
            else place s1 0 job)))

/-- R41, R99 to R101, R104 to R106, R163: ARRIVED, NO-SHOW and JOB CANCEL. A job that leaves takes its JOBNOTE
messages with it, one after another in arrival order, each with a notice, and the oldest QUEUED job moves up
into the empty ACTIVE place.
The order of the notices is the model's choice (log entry 29).
Where the report locks the link, the choice of R41 follows the hand-off: the model's reading (log entry 10). -/
def Obligations.JobsArriveAndLeave : Prop :=
  ∀ (s : State) (t : Stamp) (n : Half),
    let s0 := s.advanceTo t
    let status := fun (s : State) (j : Job) (code : Nat) =>
      s.queue .jobStatus
        (be 2 j.number ++ be 2 (j.offer.getD 0) ++ be 1 code
          ++ be 3 (min 16777215 ((s.now - j.placed) / 1000)))
    let gone := fun (s : State) =>
      match s.jobs.queued with
      | k :: rest =>
        (((s.setJobs { s.jobs with active := none }).jobGone n.toNat).setJobs
          { active := some k, queued := rest }).jobNotice .promoted k (some true)
      | [] => (s.setJobs { s.jobs with active := none }).jobGone n.toNat
    let note := fun (x : Message) => x.cls = .jobnote ∧ x.job = some n.toNat
    (((∀ x ∈ s.msgs.store, ¬ note x) → s.jobGone n.toNat = s)
        ∧ ∀ front x back, (s.msgs.store.map (fun x => x.number)).Nodup →
          s.msgs.store = front ++ x :: back → note x → (∀ y ∈ front, ¬ note y) →
          s.jobGone n.toNat =
            ((s.setMsgs { s.msgs with store := front ++ back }).messageNotice .jobGone x).jobGone n.toNat)
      ∧ (s.takes → n = 0 →
        exec (.arrived t n) s = .next (s0.replied 0x04 .argument [])
          ∧ exec (.noShow t n) s = .next (s0.replied 0x05 .argument []))
      ∧ (s.takes → n ≠ 0 → (∀ j, s.jobs.active = some j → j.number ≠ n.toNat) →
        exec (.arrived t n) s = .next (s0.replied 0x04 .state [])
          ∧ exec (.noShow t n) s = .next (s0.replied 0x05 .state []))
      ∧ (∀ j, s.takes → n ≠ 0 → s.jobs.active = some j → j.number = n.toNat →
        let here := { j with state := .arrived, arrived := some s0.now }
        (j.state = .assigned →
          exec (.arrived t n) s =
            .next ((status (s0.toHunt.setJobs { s.jobs with active := some here }) here 0).respond 0x04 .done []))
        ∧ (j.state ≠ .assigned → exec (.arrived t n) s = .next (s0.replied 0x04 .state []))
        ∧ (j.state = .arrived → j.arrived.getD 0 + 1000 * s.op.noShowWait ≤ s0.now →
          exec (.noShow t n) s = .next ((status (gone s0.toHunt) j 2).respond 0x05 .done []))
        ∧ (j.state ≠ .arrived ∨ s0.now < j.arrived.getD 0 + 1000 * s.op.noShowWait →
          exec (.noShow t n) s = .next (s0.replied 0x05 .state [])))
      ∧ ∀ rx g, s.vdd = true → s0.hears rx g → g.kind = .jobCancel → natAt g.body 0 2 = n.toNat →
        let s1 := s0.found g.site
        let ended := s0.afterReport g.site
        (∀ j, s1.jobs.active = some j → j.number = n.toNat →
          (j.state = .onBoard → exec (.jobCancel t rx) s = .next (ended (status s1 j 1)))
          ∧ (j.state ≠ .onBoard → exec (.jobCancel t rx) s = .next (ended ((gone s1).jobNotice .cancelled j none))))
        ∧ (∀ j, (∀ k, s1.jobs.active = some k → k.number ≠ n.toNat) →
          s1.jobs.queued.find? (fun k => k.number == n.toNat) = some j →
          exec (.jobCancel t rx) s =
            .next
              (ended (((s1.setJobs
                  { s1.jobs with
                    queued := s1.jobs.queued.filter (fun k => k.number != n.toNat) }).jobGone
                n.toNat).jobNotice .cancelled j none)))
        ∧ (s1.jobs.holds n.toNat = false → exec (.jobCancel t rx) s = .next (ended s1))
/-! ## Chapter 7: the meter -/

/-- R111 to R113, R146, R148: SHIFT OPEN starts a record under the next shift number and the meter is VACANT;
SHIFT CLOSE freezes the record, reports it and empties the offer table; each is refused in the states and
calls its rule names, and a STATE refusal in an open shift counts a sequence fault. -/
def Obligations.ShiftOpensAndCloses : Prop :=
  ∀ (s : State) (t : Stamp) (driver : Half), s.takes →
    let s0 := s.advanceTo t
    let fault := s0.setTrips
      { s.trips with
        current := s.trips.current.map (fun r => { r with faults := min 65535 (r.faults + 1) }) }
    let number := if 65535 ≤ s.trips.lastShift then 1 else s.trips.lastShift + 1
    (driver = 0 → exec (.shiftOpen t driver) s = .next (s0.replied 0x0B .argument []))
      ∧ (driver ≠ 0 → s.meter.mode ≠ .offShift →
        exec (.shiftOpen t driver) s = .next (fault.replied 0x0B .state []))
      ∧ (driver ≠ 0 → s.meter.mode = .offShift →
        exec (.shiftOpen t driver) s =
          .next
            (((s0.setMeter { s.meter with mode := .vacant }).setTrips
                { s.trips with
                  lastShift := number
                  current := some (ShiftRecord.new number driver.toNat s.wallStamp) }).replied 0x0B .done
              [be 2 number]))
      ∧ (s.meter.mode = .offShift → exec (.shiftClose t) s = .next (s0.replied 0x0C .state []))
      ∧ (s.meter.mode = .hired ∨ s.meter.mode = .stopped →
        exec (.shiftClose t) s = .next (fault.replied 0x0C .state []))
      ∧ (s.meter.mode = .vacant → s.emu.state = .arming ∨ s.emu.overtCall = true →
        exec (.shiftClose t) s = .next (s0.replied 0x0C .emergency []))
      ∧ (s.meter.mode = .vacant → s.emu.state ≠ .arming → s.emu.overtCall = false →
        s.emu.covertCall = true ∨ s.jobs.jobs ≠ [] →
        exec (.shiftClose t) s = .next (fault.replied 0x0C .state []))
      ∧ ∀ r, s.meter.mode = .vacant → s.emu.state = .quiet → s.jobs.jobs = [] → s.trips.current = some r →
        let closed := { r with closed := s.wallStamp }
        let s1 := ((s0.toHunt.setMeter { s.meter with mode := .offShift }).setTrips
          { s.trips with previous := some closed, current := none }).queue .shiftReport
            (shiftReportBody closed s.trips.odometer)
        exec (.shiftClose t) s =
          .next (((s1.setOffers { s.offers with table := [] }).removeBids).respond 0x0C .done [])

/-- R85, R115, R121 to R123: HIRE: its tests in order; the hire start swaps the bank that is due, settles the
second in progress to the vacant metres, creates the trip, binds the job, and removes the STREET offers that
are OFFERED or ACCEPTED.
That the pending bank is absent after the swap is the model's reading (log entry 15). -/
def Obligations.HireStartsTrip : Prop :=
  ∀ (s : State) (t : Stamp) (form : Byte), s.takes →
    let s0 := s.advanceTo t
    let fault := s0.setTrips
      { s.trips with
        current := s.trips.current.map (fun r => { r with faults := min 65535 (r.faults + 1) }) }
    (form ≠ 0 → form ≠ 1 → exec (.hire t form) s = .next (s0.replied 0x06 .argument []))
      ∧ (form = 0 ∨ form = 1 → s.meter.mode = .offShift →
        exec (.hire t form) s = .next (s0.replied 0x06 .state []))
      ∧ (form = 0 ∨ form = 1 → s.meter.mode = .hired ∨ s.meter.mode = .stopped →
        exec (.hire t form) s = .next (fault.replied 0x06 .state []))
      ∧ (form = 0 ∨ form = 1 → s.meter.mode = .vacant →
        s.meter.calibration = none ∨ (s.meter.active = none ∧ s.swapDue = none) →
        exec (.hire t form) s = .next (s0.replied 0x06 .table []))
      ∧ (∀ c b, form = 0 → s.meter.mode = .vacant → s.meter.calibration = some c →
        s.meter.active = some b ∨ s.swapDue = some b → s.jobs.bindable = none →
        exec (.hire t form) s = .next (fault.replied 0x06 .state []))
      ∧ (∀ (c : Calibration) (b : Bank) (bound : Option Job), s.meter.mode = .vacant →
        s.meter.calibration = some c →
        s.swapDue = some b ∨ (s.swapDue = none ∧ s.meter.active = some b) →
        (form = 1 ∧ bound = none) ∨ (form = 0 ∧ bound.isSome = true ∧ s.jobs.bindable = bound) →
        let m := min s.meter.m c.vmax
        let number := s.select b.set
        let fare := ((b.set.tariff number).map (fun x => x.flagFall)).getD 0
        let surcharge := b.set.surcharge (s.surchargeClass s.zone.zone)
        let trip : Trip :=
          { job := bound.map (fun j => j.number), shift := (s.trips.current.map (fun r => r.number)).getD 0,
            start := s.wallStamp, tariff := number, firstTariff := number, lastTariff := number,
            progress := 0, threshold := .first, drops := 0, fare := fare, extras := 0,
            extrasCounts := [0, 0, 0, 0, 0, 0, 0, 0], surcharge := surcharge,
            price := bound.bind (fun j => j.price), account := bound.bind (fun j => j.account),
            seconds := 0, metres := 0, part := true, stopStamp := none, limit := false, clamp := false,
            resumed := false }
        let meter : Meter :=
          { s.meter with
            m := 0, trip := some trip, active := some b
            pendingBank := if s.swapDue.isSome then none else s.meter.pendingBank
            ready := if s.swapDue.isSome then false else s.meter.ready }
        let trips :=
          { s.trips with
            odometer := sumUp s.trips.odometer m
            current := s.trips.current.map (fun r =>
              { r with
                vacantMetres := sumUp r.vacantMetres m
                clampedMetres :=
                  if c.vmax < s.meter.m then sumUp r.clampedMetres (s.meter.m - c.vmax)
                  else r.clampedMetres }) }
        let s1 := (s0.toHunt.setMeter meter).setTrips trips
        let s2 := match bound with
          | some j =>
            (s1.setJobs { s.jobs with active := some { j with state := .onBoard } }).queue .jobStatus
              (be 2 j.number ++ be 2 (j.offer.getD 0) ++ be 1 1
                ++ be 3 (min 16777215 ((s0.now - j.placed) / 1000)))
          | none => s1
        exec (.hire t form) s =
          .next
            ((s2.setMeter { meter with mode := .hired }).pruneOffers.respond 0x06 .done
              [be 1 number,
               be 3 (min 999999 (match bound.bind (fun j => j.price) with
                 | some price => price
                 | none => fare + surcharge))]))
      ∧ ((s.offers.table.map (fun e => e.number)).Nodup →
        s.pruneOffers.offers.table =
          s.offers.table.filter (fun e => e.kind != .street || e.state == .bidSent))

/-- R111, R115, R127, R128: STOP settles the second in progress to the trip, adds its partial contribution,
tests for drops and stops accrual; RESUME, before the resume grace has run, settles to the vacant metres and
goes on in the same trip with a partial second; in any other state each is refused, with a sequence fault in an
open shift.
That a DROP notice at a STOP shows HIRED (log entry 13), and that the RESUME's response carries the charged
amount (log entry 19), are the model's readings. -/
def Obligations.StopAndResumeTrip : Prop :=
  ∀ (s : State) (t : Stamp), s.takes →
    let s0 := s.advanceTo t
    let fault := s0.setTrips
      { s.trips with
        current := s.trips.current.map (fun r => { r with faults := min 65535 (r.faults + 1) }) }
    (s.meter.mode = .offShift →
        exec (.stop t) s = .next (s0.replied 0x07 .state [])
          ∧ exec (.resume t) s = .next (s0.replied 0x08 .state []))
      ∧ (s.meter.mode = .vacant ∨ s.meter.mode = .stopped →
        exec (.stop t) s = .next (fault.replied 0x07 .state []))
      ∧ (s.meter.mode = .vacant ∨ s.meter.mode = .hired →
        exec (.resume t) s = .next (fault.replied 0x08 .state []))
      ∧ ∀ (c : Calibration) (p : Trip), s.meter.calibration = some c → s.meter.trip = some p →
        let m := min s.meter.m c.vmax
        let exceeds := decide (c.vmax < s.meter.m)
        let clamped := fun (r : ShiftRecord) =>
          if exceeds then sumUp r.clampedMetres (s.meter.m - c.vmax) else r.clampedMetres
        let odometer := sumUp s.trips.odometer m
        let graceS := (s.meter.active.map (fun b => b.set.grace)).getD 0
        (∀ T, s.meter.mode = .hired → s.tariff p.tariff = some T →
          let p1 :=
            { p with
              clamp := p.clamp || exceeds
              metres := sumUp p.metres m
              progress := p.progress + m * T.time }
          let s1 := ((s0.toHunt.setMeter { s.meter with m := 0, trip := some p1 }).setTrips
            { s.trips with
              odometer := odometer
              current := s.trips.current.map (fun r => { r with clampedMetres := clamped r }) }).dropTest
          let s2 := s1.setMeter
            { s1.meter with
              mode := .stopped
              trip := s1.meter.trip.map (fun p => { p with stopStamp := some s0.now }) }
          exec (.stop t) s = .next (s2.respond 0x07 .done [be 3 s2.chargedSoFar]))
        ∧ (s.meter.mode = .stopped → graceS = 0 ∨ p.stopStamp.getD 0 + 1000 * graceS ≤ s0.now →
          exec (.resume t) s = .next (fault.replied 0x08 .state []))
        ∧ (s.meter.mode = .stopped → graceS ≠ 0 → s0.now < p.stopStamp.getD 0 + 1000 * graceS →
          let p1 := { p with clamp := p.clamp || exceeds, part := true, resumed := true }
          exec (.resume t) s =
            .next
              (((s0.setMeter { s.meter with mode := .hired, m := 0, trip := some p1 }).setTrips
                  { s.trips with
                    odometer := odometer
                    current := s.trips.current.map (fun r =>
                      { r with
                        vacantMetres := sumUp r.vacantMetres m
                        clampedMetres := clamped r }) }).replied 0x08 .done [be 3 p1.charged]))

/-- R117, R119, R130, R132: after a contribution, drops are taken until the progress is below the threshold in
force: the first threshold once, then regular ones; each takes the threshold, counts, adds the drop amount up to
the fare limit, makes the next threshold a regular one, sets LIMIT where the fare or the charged amount is held,
and raises a METER notice.
When LIMIT is set is read as log entry 18 says. -/
def Obligations.DropsTakenFromProgress : Prop :=
  ∀ (s : State) (p : Trip) (T : Tariff), s.meter.trip = some p → s.tariff p.tariff = some T →
    0 < T.distance * T.time → 1 ≤ T.firstStep →
    let regular := T.distance * T.time
    let first := if p.threshold = .first then T.firstStep * regular else regular
    let fare := min 999999 (p.fare + T.drop)
    let sum := match p.price with
      | some price => price + p.extras
      | none => fare + p.extras + p.surcharge
    let p1 :=
      { p with
        progress := p.progress - first
        drops := min 4294967295 (p.drops + 1)
        fare := fare
        threshold := .regular
        limit := p.limit || decide (999999 < p.fare + T.drop) || decide (999999 < sum) }
    let n := if p.progress < first then 0 else 1 + (p.progress - first) / regular
    (p.progress < first → s.dropTest = s)
      ∧ (first ≤ p.progress →
        s.dropTest =
          ((s.setMeter { s.meter with trip := some p1 }).raise .meter 0
            (be 1 s.meter.mode.code ++ be 1 p.tariff ++ be 4 p1.drops ++ be 3 (min 999999 sum))).dropTest)
      ∧ (p.fare ≤ 999999 → p.drops + n ≤ 4294967295 →
        ∃ p' c, s.dropTest = (s.setMeter { s.meter with trip := some p' }).setCab c
          ∧ p'.progress = (if p.progress < first then p.progress else (p.progress - first) % regular)
          ∧ p'.drops = p.drops + n ∧ p'.fare = min 999999 (p.fare + n * T.drop)
          ∧ p'.threshold = (if n = 0 then p.threshold else .regular)
          ∧ p'.seconds = p.seconds ∧ p'.metres = p.metres ∧ p'.extras = p.extras ∧ p'.part = p.part)

/-- R103, R111, R129 to R131, R138 to R141: EXTRA adds its amount once more up to its maximum; PAY closes the
trip with the number of the counter, adds it into the shift, empties the ACTIVE place of a bound job or
promotes, and leaves the meter VACANT; in another state each is refused, with a sequence fault in an open shift.
When LIMIT is set is read as log entry 18 says, and the choice after a close as log entry 10. -/
def Obligations.ExtraAndPay : Prop :=
  ∀ (s : State) (t : Stamp) (b : Byte), s.takes →
    let s0 := s.advanceTo t
    let fault := s0.setTrips
      { s.trips with
        current := s.trips.current.map (fun r => { r with faults := min 65535 (r.faults + 1) }) }
    let rate := (s.meter.active.bind (fun k => k.set.extras[b.toNat]?)).getD { amount := 0, maximum := 0 }
    let form := if b = 0 then some PayForm.cash else if b = 1 then some .card else if b = 2 then some .account
      else none
    let running := s.meter.mode = .hired ∨ s.meter.mode = .stopped
    (7 < b.toNat → exec (.extra t b) s = .next (s0.replied 0x0A .argument []))
      ∧ (b.toNat ≤ 7 → s.meter.mode = .offShift → exec (.extra t b) s = .next (s0.replied 0x0A .state []))
      ∧ (b.toNat ≤ 7 → s.meter.mode = .vacant → exec (.extra t b) s = .next (fault.replied 0x0A .state []))
      ∧ (∀ p, s.meter.trip = some p → b.toNat ≤ 7 → running →
        let count := (p.extrasCounts[b.toNat]?).getD 0
        (rate.maximum ≤ count → exec (.extra t b) s = .next (s0.replied 0x0A .full []))
        ∧ (count < rate.maximum →
          ∃ p', exec (.extra t b) s =
              .next ((s0.setMeter { s.meter with trip := some p' }).replied 0x0A .done [be 3 p'.charged])
            ∧ p' =
              { p with
                extrasCounts := p.extrasCounts.set b.toNat (count + 1)
                extras := min 999999 (p.extras + rate.amount)
                limit := p'.limit }
            ∧ p'.limit =
              (p.limit || decide (999999 < p.extras + rate.amount) || decide (999999 < p'.uncapped))))
      ∧ (form = none → exec (.pay t b) s = .next (s0.replied 0x09 .argument []))
      ∧ (form ≠ none → s.meter.mode = .offShift → exec (.pay t b) s = .next (s0.replied 0x09 .state []))
      ∧ (form ≠ none → s.meter.mode = .vacant ∨ s.meter.mode = .hired →
        exec (.pay t b) s = .next (fault.replied 0x09 .state []))
      ∧ (∀ p, s.meter.trip = some p → form = some .account → s.meter.mode = .stopped → p.account = none →
        exec (.pay t b) s = .next (s0.replied 0x09 .argument []))
      ∧ ∀ p f, s.meter.trip = some p → form = some f → s.meter.mode = .stopped →
        (f = .account → p.account ≠ none) →
        let record : TripRecord :=
          { sequence := s.trips.sequence, job := p.job, shift := p.shift, start := p.start,
            seconds := p.seconds, metres := p.metres, firstTariff := p.firstTariff,
            lastTariff := p.lastTariff, drops := p.drops, fare := p.fare, extras := p.extras,
            surcharge := p.surcharge, price := p.price, charged := p.charged, form := f,
            account := if f = .account then p.account else none,
            limit := p.limit || decide (999999 < p.uncapped), clamp := p.clamp, resumed := p.resumed,
            power := false }
        let lost := match s.trips.log[s.trips.sequence % 16]? with
          | some (some h) => !h.reported
          | _ => false
        let trips :=
          { s.trips with
            sequence := if 4294967295 ≤ s.trips.sequence then 1 else s.trips.sequence + 1
            log := s.trips.log.set (s.trips.sequence % 16)
              (some { record := record, reported := false, closeStamp := s0.now })
            current := s.trips.current.map (fun r =>
              { r with
                unreportedLost := if lost then min 65535 (r.unreportedLost + 1) else r.unreportedLost
                trips := min 65535 (r.trips + 1)
                hiredMetres := sumUp r.hiredMetres p.metres
                hiredSeconds := sumUp r.hiredSeconds p.seconds
                fareSum := sumUp r.fareSum p.fare
                extrasSum := sumUp r.extrasSum p.extras
                surchargeSum := sumUp r.surchargeSum p.surcharge
                chargedSum := sumUp r.chargedSum p.charged
                cashSum := sumUp r.cashSum (if f = .cash then p.charged else 0)
                cardSum := sumUp r.cardSum (if f = .card then p.charged else 0)
                accountSum := sumUp r.accountSum (if f = .account then p.charged else 0)
                unsettledSum := sumUp r.unsettledSum 0
                fixedTrips := if p.price.isSome then min 65535 (r.fixedTrips + 1) else r.fixedTrips
                firstTrip := some (r.firstTrip.getD s.trips.sequence)
                lastTrip := some s.trips.sequence }) }
        let s1 := (s0.toHunt.setMeter { s.meter with mode := .vacant }).setTrips trips
        let s2 := if s.trips.candidate.isNone && trips.candidate.isSome then s1.choose else s1
        let s3 := match p.job, s.jobs.active with
          | some _, some j => ((s2.setJobs { s.jobs with active := none }).jobGone j.number).promote
          | some _, none => s2
          | none, _ => s2.promote
        exec (.pay t b) s =
          .next
            ((s3.setMeter { s.meter with mode := .vacant, trip := none }).respond 0x09 .done
              [be 3 p.charged, be 4 s.trips.sequence])

/-- R114, R116, R118, R119, R196: a WHEEL pulse adds 1,000 to the residue and each K in it is a metre; a
seconds tick advances the wall clock, clamps m, allocates it by the meter state, accrues while HIRED, and
clears it; while main power is absent the wall clock alone runs, and with no calibration committed, when m is 0
and no hire runs, the tick leaves the meter and the totals as they are.
What acts without main power (log entry 16), that the Meter's notices come before the Message Store's (log entry
29), and that a tick while STOPPED leaves the partial mark as it is (log entry 34), are the model's readings. -/
def Obligations.PulsesAndSeconds : Prop :=
  ∀ (s : State) (t : Stamp),
    let s0 := s.advanceTo t
    let clock := s.dcu.clock.map (fun c =>
      if c.second < 86399 then { c with second := c.second + 1 }
      else { day := (c.day + 1) % 65536, dayOfWeek := (c.dayOfWeek + 1) % 7, second := 0 : WallClock })
    let dcu := { s.dcu with clock := clock }
    (s.vdd = false → exec (.secondsTick t) s = .next (s.setDcu dcu))
      ∧ (s.vdd = true → s.meter.calibration = none → exec (.wheelPulse t) s = .next s0)
      ∧ (s.vdd = true → s.meter.calibration = none → s.meter.m = 0 → s.meter.mode ≠ .hired →
        s.trips.odometer ≤ 4294967295 → (∀ r, s.trips.current = some r → r.vacantMetres ≤ 4294967295) →
        exec (.secondsTick t) s = .next (s0.setDcu dcu).tickMessages)
      ∧ ∀ c, s.vdd = true → s.meter.calibration = some c →
        let m := min s.meter.m c.vmax
        let exceeds := decide (c.vmax < s.meter.m)
        let clamped := fun (r : ShiftRecord) =>
          if exceeds then sumUp r.clampedMetres (s.meter.m - c.vmax) else r.clampedMetres
        let odometer := sumUp s.trips.odometer m
        exec (.wheelPulse t) s =
            .next
              (s0.setMeter
                { s.meter with
                  residue := (s.meter.residue + 1000) % c.k
                  m := min 65535 (s.meter.m + (s.meter.residue + 1000) / c.k) })
          ∧ (s.meter.mode = .offShift → s.meter.trip = none →
            exec (.secondsTick t) s =
              .next
                (((s0.setDcu dcu).setMeter { s.meter with m := 0 }).setTrips
                  { s.trips with odometer := odometer }).tickMessages)
          ∧ (s.meter.mode = .vacant ∨ s.meter.mode = .stopped →
            exec (.secondsTick t) s =
              .next
                (((s0.setDcu dcu).setMeter
                    { s.meter with
                      m := 0
                      trip := s.meter.trip.map (fun p => { p with clamp := p.clamp || exceeds }) }).setTrips
                  { s.trips with
                    odometer := odometer
                    current := s.trips.current.map (fun r =>
                      { r with
                        vacantMetres := sumUp r.vacantMetres m
                        clampedMetres := clamped r }) }).tickMessages)
          ∧ ∀ p T, s.meter.mode = .hired → s.meter.trip = some p → s.tariff p.tariff = some T →
            let full := match T.mode with
              | .single => max (m * T.time) T.distance
              | .double => m * T.time + T.distance
              | .distance => m * T.time
              | .time => T.distance
            let p1 :=
              { p with
                clamp := p.clamp || exceeds
                metres := sumUp p.metres m
                progress := p.progress + (if p.part then m * T.time else full)
                seconds := if p.part then p.seconds else sumUp p.seconds 1
                part := false }
            let s1 := (((s0.setDcu dcu).setMeter { s.meter with m := m, trip := some p1 }).setTrips
              { s.trips with
                odometer := odometer
                current := s.trips.current.map (fun r => { r with clampedMetres := clamped r }) }).dropTest
            let s2 := s1.setMeter { s1.meter with m := 0 }
            let onMinute := match clock with | some k => k.second % 60 == 0 | none => false
            exec (.secondsTick t) s = .next (if onMinute then s2.evaluateBand else s2).tickMessages

/-- R124 to R126: the tariff of the band that began last, looking back through the week, is selected, the
lower index of equals; a change during a trip rescales the progress by the thresholds and raises a notice. -/
def Obligations.BandChangesTariff : Prop :=
  (∀ (set : TariffSet) (moment : Nat), set.bands = [] → set.selectAt moment = 1)
    ∧ (∀ (set : TariffSet) (moment : Nat) (front back : List Band) (b : Band) (day d : Nat),
        set.bands = front ++ b :: back → moment < 10080 → (∀ x ∈ set.bands, x.start < 1440) →
        day < 7 → b.days.getLsbD day = true → d < 10080 →
        (day * 1440 + b.start + d) % 10080 = moment →
        (∀ (x : Band) (day' d' : Nat), x ∈ front → day' < 7 → x.days.getLsbD day' = true → d' < 10080 →
          (day' * 1440 + x.start + d') % 10080 = moment → d < d') →
        (∀ (x : Band) (day' d' : Nat), x ∈ b :: back → day' < 7 → x.days.getLsbD day' = true → d' < 10080 →
          (day' * 1440 + x.start + d') % 10080 = moment → d ≤ d') →
        set.selectAt moment = b.tariff)
    ∧ ∀ (s : State) (p : Trip) (bank : Bank), s.meter.trip = some p → s.meter.active = some bank →
        let number := match s.dcu.clock with
          | some c => bank.set.selectAt (c.dayOfWeek * 1440 + c.second / 60)
          | none => 1
        (s.meter.mode ≠ .hired ∨ number = p.tariff → s.evaluateBand = s)
          ∧ ∀ old new, s.meter.mode = .hired → number ≠ p.tariff → s.tariff p.tariff = some old →
            s.tariff number = some new →
            let p' :=
              { p with
                progress := p.progress * new.threshold p.threshold / old.threshold p.threshold
                tariff := number
                lastTariff := number }
            s.evaluateBand = (s.setMeter { s.meter with trip := some p' }).meterNotice .tariff p'

/-- R130: while a trip is in progress no command makes its charged amount fall. -/
def Obligations.ChargedAmountNeverFalls : Prop :=
  ∀ (i : Instr) (s s' : State) (p p' : Trip), s.meter.mode = .hired ∨ s.meter.mode = .stopped →
    s.meter.trip = some p → exec i s = .next s' → s'.meter.trip = some p' → p.charged ≤ p'.charged
/-! ## Chapters 8 to 10: trips, messages and emergency calls -/

/-- R41, R144, R149: a TRIP RECALL makes its record UNREPORTED again, or is answered RECALL MISS; a TOTALS QUERY
is answered with the record of its selector as it stands, or NO SHIFT; a value out of range has no effect.
That a choice follows a recall that makes the trip-report source ready, and the hand-off where the report locks
the link (R41), is the model's reading (log entry 10). -/
def Obligations.RecallAndTotals : Prop :=
  ∀ (s : State) (t : Stamp) (rx : List Byte) (g : Telegram), s.vdd = true → (s.advanceTo t).hears rx g →
    let s1 := (s.advanceTo t).found g.site
    let ended := (s.advanceTo t).afterReport g.site
    (g.kind = .tripRecall →
        let n := natAt g.body 0 4
        (n = 0 → exec (.tripRecall t rx) s = .next (ended s1))
        ∧ (∀ h, n ≠ 0 → s1.trips.log[n % 16]? = some (some h) → h.record.sequence = n →
          let s2 := s1.setTrips
            { s1.trips with log := s1.trips.log.set (n % 16) (some { h with reported := false }) }
          exec (.tripRecall t rx) s =
            .next (ended (if s1.trips.candidate.isNone && s2.trips.candidate.isSome then s2.choose else s2)))
        ∧ (n ≠ 0 → (∀ h, s1.trips.log[n % 16]? = some (some h) → h.record.sequence ≠ n) →
          exec (.tripRecall t rx) s = .next (ended (s1.queue .statusReply (be 1 4 ++ be 4 n)))))
      ∧ (g.kind = .totalsQuery →
        let n := natAt g.body 0 1
        let record := if n = 0 then s1.trips.current else s1.trips.previous
        (1 < n → exec (.totalsQuery t rx) s = .next (ended s1))
        ∧ (n ≤ 1 → record = none →
          exec (.totalsQuery t rx) s = .next (ended (s1.queue .statusReply (be 1 5 ++ be 1 n))))
        ∧ ∀ r, n ≤ 1 → record = some r →
          exec (.totalsQuery t rx) s =
            .next (ended (s1.queue .totalsReport (be 1 n ++ shiftReportBody r s1.trips.odometer))))

/-- R41, R158 to R161: a MESSAGE out of range or with a held number has no effect; another joins the end of the
store UNREAD, a JOBNOTE without a held job as NORMAL, after the eviction from a full store: the oldest that
is not UNREAD, else the oldest that is not URGENT, else the oldest.
Where the report locks the link, the choice of R41 follows the hand-off: the model's reading (log entry 10). -/
def Obligations.MessageTaken : Prop :=
  ∀ (s : State) (t : Stamp) (rx : List Byte) (g : Telegram), s.vdd = true → (s.advanceTo t).hears rx g →
    g.kind = .message →
    let s1 := (s.advanceTo t).found g.site
    let ended := (s.advanceTo t).afterReport g.site
    let m := MessageBody.read g.body
    let held := ∃ x ∈ s1.msgs.store, x.number = m.number
    (m.cls = none ∨ m.inRange = false → exec (.message t rx) s = .next (ended s1))
      ∧ ∀ cls, m.cls = some cls → m.inRange = true →
        let linked := decide (cls = .jobnote) && (m.job.map s1.jobs.holds).getD false
        let x : Message :=
          { number := m.number
            cls := if cls = .jobnote ∧ linked = false then .normal else cls
            job := if linked then m.job else none
            group := m.group, state := .unread, received := s1.wallStamp
            life := m.lifetime.map (fun l => { minutes := l, seconds := 0 })
            text := s1.expand 116 240 m.codes }
        let join := fun (s : State) =>
          (s.setMsgs { s.msgs with store := s.msgs.store ++ [x] }).messageNotice .new x
        let rank := fun (y : Message) => if y.state ≠ .unread then 0 else if y.cls ≠ .urgent then 1 else 2
        (held → exec (.message t rx) s = .next (ended s1))
          ∧ (¬ held → s1.msgs.store.length < 16 → exec (.message t rx) s = .next (ended (join s1)))
          ∧ ∀ front y back, ¬ held → 16 ≤ s1.msgs.store.length → s1.msgs.store = front ++ y :: back →
            (∀ z ∈ front, rank y < rank z) → (∀ z ∈ back, rank y ≤ rank z) →
            (∀ z ∈ front ++ back, z.number ≠ y.number) →
            exec (.message t rx) s =
              .next
                (ended (join
                  ((s1.setMsgs
                      { s1.msgs with
                        store := front ++ back
                        lost :=
                          if y.state = .unread then min 65535 (s1.msgs.lost + 1)
                          else s1.msgs.lost }).messageNotice .evicted y)))

/-- R162: a lifetime counts one second at each tick, and a message whose lifetime runs out leaves with a notice;
MESSAGE_EXPIRY removes the message it names, with a notice, when its lifetime has run out or does so at its next
second (log entry 8, the model's choice), and else only brings the timer on.
That all lifetimes count before the first removal, and that the removals and their notices follow the arrival
order, are the model's choices (log entry 29). -/
def Obligations.MessageLifetimes : Prop :=
  (∀ (s : State),
      let counted := s.msgs.store.map (fun x =>
        { x with
          life := x.life.map (fun l =>
            if l.seconds + 1 < 60 then { l with seconds := l.seconds + 1 }
            else { minutes := l.minutes - 1, seconds := 0 }) })
      let out := fun (x : Message) => (x.life.map (fun l => l.minutes == 0)).getD false
      s.tickMessages =
          (counted.filter out).foldl
            (fun q x =>
              (q.setMsgs
                { q.msgs with
                  store := q.msgs.store.filter (fun y => y.number != x.number) }).messageNotice .expired x)
            (s.setMsgs { s.msgs with store := counted })
        ∧ ((s.msgs.store.map (fun x => x.number)).Nodup →
          ∃ c, s.tickMessages =
              (s.setMsgs { s.msgs with store := counted.filter (fun x => !out x) }).setCab c
            ∧ ((∀ x ∈ counted, out x = false) → c = s.cab)))
    ∧ ∀ (s : State) (t : Stamp) (n : Half), s.vdd = true →
      let s0 := s.advanceTo t
      (s.msgs.find n.toNat = none → exec (.messageExpiry t n) s = .next s0)
      ∧ ∀ x, s.msgs.find n.toNat = some x →
        let gone :=
          (s0.setMsgs
              { s.msgs with
                store := s.msgs.store.filter (fun y => y.number != n.toNat) }).messageNotice .expired x
        (x.life = none → exec (.messageExpiry t n) s = .next s0)
        ∧ ∀ l, x.life = some l →
          (l.minutes = 0 ∨ (l.minutes = 1 ∧ 59 ≤ l.seconds) → exec (.messageExpiry t n) s = .next gone)
          ∧ (1 < l.minutes ∨ (l.minutes = 1 ∧ l.seconds < 59) → exec (.messageExpiry t n) s = .next s0)

/-- R164 to R166: MARK READ, REPLY and SEND: their tests in order; MARK READ makes an UNREAD message READ,
a REPLY that joins makes its message REPLIED, and a DRIVER MESSAGE refused at the join is answered FULL. -/
def Obligations.MarkReadReplySend : Prop :=
  ∀ (s : State) (t : Stamp) (n : Half) (phrase : Byte), s.takes →
    let s0 := s.advanceTo t
    let p := phrase.toNat
    let uplink := fun number =>
      s0.toHunt.join .driverMessage (driverMessageBody s0 number p) none
    let marked := fun (x : Message) (m : Messages) =>
      { m with store := m.store.map (fun y => if y.number == x.number then x else y) }
    (n = 0 → exec (.markRead t n) s = .next (s0.replied 0x0E .argument []))
      ∧ (n ≠ 0 → s.msgs.find n.toNat = none → exec (.markRead t n) s = .next (s0.replied 0x0E .state []))
      ∧ (∀ x, n ≠ 0 → s.msgs.find n.toNat = some x → x.state = .unread →
        exec (.markRead t n) s =
          .next ((s0.setMsgs (marked { x with state := .read } s.msgs)).replied 0x0E .done []))
      ∧ (∀ x, n ≠ 0 → s.msgs.find n.toNat = some x → x.state ≠ .unread →
        exec (.markRead t n) s = .next (s0.replied 0x0E .done []))
      ∧ (n = 0 ∨ p < 96 ∨ 127 < p → exec (.reply t n phrase) s = .next (s0.replied 0x0F .argument []))
      ∧ (n ≠ 0 → 96 ≤ p → p ≤ 127 → s.msgs.find n.toNat = none →
        exec (.reply t n phrase) s = .next (s0.replied 0x0F .state []))
      ∧ (∀ x, n ≠ 0 → 96 ≤ p → p ≤ 127 → s.msgs.find n.toNat = some x →
        (x.state = .replied ∨ x.group = none → exec (.reply t n phrase) s = .next (s0.replied 0x0F .state []))
        ∧ ∀ group, x.state ≠ .replied → x.group = some group →
          (s.dcu.phrases = none → exec (.reply t n phrase) s = .next (s0.replied 0x0F .table []))
          ∧ ∀ book, s.dcu.phrases = some book →
            (p ∉ groupMembers book.table group →
              exec (.reply t n phrase) s = .next (s0.replied 0x0F .argument []))
            ∧ (p ∈ groupMembers book.table group →
              let j := uplink n.toNat
              exec (.reply t n phrase) s =
                .next
                  (if j.joined then
                    (j.state.setMsgs (marked { x with state := .replied } j.state.msgs)).respond 0x0F .done []
                  else j.state.respond 0x0F .full [])))
      ∧ (p < 96 ∨ 127 < p → exec (.send t phrase) s = .next (s0.replied 0x10 .argument []))
      ∧ (96 ≤ p → p ≤ 127 →
        exec (.send t phrase) s =
          .next ((uplink 0).state.respond 0x10 (if (uplink 0).joined then .done else .full) []))

/-- R154 to R157: the expander never gives more positions than its limit, and a truncated text fills it; a
text of character codes gives their characters; nothing after an END is read; a control begins a new line, or
selects the set or the emphasis of what follows; code 62 gives the substitution mark; a PHRASE adds its
characters up to the limit; and an ESCAPE or a PHRASE without the codes it needs ends the text. -/
def Obligations.TextExpansion : Prop :=
  (∀ (s : State) (taken limit : Nat) (codes : List Nat),
      let x := s.expand taken limit codes
      x.positions.length ≤ limit ∧ (x.truncated = true → x.positions.length = limit))
    ∧ (∀ (s : State) (taken limit : Nat) (codes : List Nat), (∀ c ∈ codes, c < 60) → codes.length ≤ taken →
      s.expand taken limit codes =
        { positions := (codes.take limit).map (fun c => { char := charOf false c, emphasis := false })
          truncated := decide (limit < codes.length) })
    ∧ (∀ (book : Option Memory) (limit : Nat) (front back : List Nat) (setB emphasis : Bool)
        (made : List DisplayPos), (∀ c ∈ front, c < 60) →
      expandFrom book limit (front ++ 63 :: back) setB emphasis made =
        expandFrom book limit front setB emphasis made)
    ∧ (∀ (book : Option Memory) (limit c : Nat) (rest : List Nat) (setB emphasis : Bool)
        (made : List DisplayPos), c ≠ 0 →
      expandFrom book limit (60 :: c :: rest) setB emphasis made =
        expandFrom book limit rest (if c = 1 then false else if c = 2 then true else setB)
          (if c = 3 then true else if c = 4 then false else emphasis) made)
    ∧ (∀ (book : Option Memory) (limit c : Nat) (rest : List Nat) (setB emphasis : Bool)
        (made : List DisplayPos),
      let adds := fun (char : BitVec 7) =>
        if made.length < limit then
          expandFrom book limit rest setB emphasis (made ++ [{ char := char, emphasis := emphasis }])
        else { positions := made, truncated := true }
      expandFrom book limit (60 :: 0 :: rest) setB emphasis made = adds 0x0A
        ∧ expandFrom book limit (62 :: rest) setB emphasis made = adds 0x3F
        ∧ (c < 60 → expandFrom book limit (c :: rest) setB emphasis made = adds (charOf setB c))
        ∧ expandFrom book limit [60] setB emphasis made = { positions := made, truncated := false }
        ∧ expandFrom book limit [61] setB emphasis made = { positions := made, truncated := false }
        ∧ expandFrom book limit [61, c] setB emphasis made = { positions := made, truncated := false })
    ∧ ∀ (book : Option Memory) (limit hi lo : Nat) (rest : List Nat) (setB emphasis : Bool)
        (made : List DisplayPos), made.length ≤ limit →
      let number := hi * 64 + lo
      let known := (book.map (fun b => if 128 ≤ number then [] else phraseChars b number)).getD []
      let chars := (if known = [] then [0x3F#7] else known).map (fun c =>
        { char := c, emphasis := emphasis : DisplayPos })
      expandFrom book limit (61 :: hi :: lo :: rest) setB emphasis made =
        if made.length + chars.length ≤ limit then
          expandFrom book limit rest setB emphasis (made ++ chars)
        else { positions := made ++ chars.take (limit - made.length), truncated := true }

/-- R170 to R176, R183: what an EMERG press or an EMERGENCY request, a COVERT press, the grace deadline and
a CANCEL do in each emergency state.
What a press does at a reached deadline, an expiry before one, and that the choice of a beacon falls before
the offers and BIDs leave, are the model's choices (log entries 3, 10 and 26). -/
def Obligations.EmergencyInputs : Prop :=
  ∀ (s : State) (t : Stamp), s.vdd = true →
    let s0 := s.advanceTo t
    let e := s.emu
    let noted := fun (s : State) (cause : EmergencyCause) =>
      s.emergencyNotice cause s.emu.state s.emu.episode s.emu.beacons
    let enter := fun (s : State) (covert : Bool) =>
      (s.setEmu
        { state := .active, covert := covert
          episode := if 65535 ≤ e.episode then 1 else e.episode + 1
          beacons := 0, presses := 0, cancels := 0, grace := none, beacon := some s.now }).choose
    let overt := fun (s : State) =>
      let s1 := enter s false
      noted ((s1.setOffers { s1.offers with table := [] }).removeBids) .active
    let covert := (enter s0 true).removeBids
    let reached := ∃ d, e.grace = some d ∧ d ≤ s0.now
    let arming : Emergency := { e with state := .arming, grace := some (s0.now + 1000 * s.op.grace) }
    let pressed := fun (s : State) =>
      if e.state = .quiet then
        if s.op.grace = 0 then overt s else noted (s.setEmu arming) .arming
      else if e.state = .arming then s
      else s.setEmu { e with presses := min 65535 (e.presses + 1) }
    let counted : Emergency := { e with cancels := min 65535 (e.cancels + 1) }
    let inCall := e.state = .active ∨ e.state = .acknowledged
    exec (.emergPress t) s = .next (pressed s0)
      ∧ (s.takes → exec (.emergencyRequest t) s = .next ((pressed s0.toHunt).respond 0x11 .done []))
      ∧ (e.state = .quiet → exec (.covertPress t) s = .next covert)
      ∧ (e.state = .arming → reached →
        exec (.covertPress t) s = .next (overt s0) ∧ exec (.graceExpiry t) s = .next (overt s0))
      ∧ (e.state = .arming → ¬ reached →
        exec (.covertPress t) s =
            .next (covert.emergencyNotice .cancelled .quiet e.episode e.beacons)
          ∧ exec (.graceExpiry t) s = .next s0)
      ∧ (inCall → exec (.covertPress t) s = .next s0)
      ∧ (e.state ≠ .arming → exec (.graceExpiry t) s = .next s0)
      ∧ (s.takes →
        (e.state = .quiet → exec (.cancel t) s = .next (s0.replied 0x12 .done []))
        ∧ (e.state = .arming → ¬ reached →
          exec (.cancel t) s =
            .next
              ((noted (s0.toHunt.setEmu { e with state := .quiet, grace := none }) .cancelled).respond 0x12
                .done []))
        ∧ (e.state = .arming → reached →
          let s1 := overt s0.toHunt
          exec (.cancel t) s =
            .next ((s1.setEmu { s1.emu with cancels := min 65535 (s1.emu.cancels + 1) }).respond 0x12
              .emergency []))
        ∧ (inCall →
          exec (.cancel t) s =
            .next ((s0.setEmu counted).replied 0x12 (if e.covert then .done else .emergency) [])))

/-- R41, R177 to R179: an EMERGENCY ACK that matches the ACTIVE call makes it ACKNOWLEDGED; a STAND DOWN that
matches a call ends it, with the beacon and an access for it; a beacon that is due may be chosen.
What comes before the due time is the model's choice (log entry 3).
Where the report locks the link, the choice of R41 follows the hand-off: the model's reading (log entry 10). -/
def Obligations.EmergencyTelegramsBeacon : Prop :=
  ∀ (s : State) (t : Stamp), s.vdd = true →
    (∀ d, s.emu.beacon = some d →
        exec (.beaconDue t) s =
          .next (if d ≤ (s.advanceTo t).now then (s.advanceTo t).choose else s.advanceTo t))
      ∧ (s.emu.beacon = none → exec (.beaconDue t) s = .next (s.advanceTo t))
      ∧ ∀ rx g, (s.advanceTo t).hears rx g →
        let s1 := (s.advanceTo t).found g.site
        let ended := (s.advanceTo t).afterReport g.site
        let e := s1.emu
        let n := natAt g.body 0 2
        let matching := n = 0 ∨ n = e.episode
        let noted := fun (s : State) (cause : EmergencyCause) =>
          if e.covert then s else s.emergencyNotice cause s.emu.state s.emu.episode s.emu.beacons
        (g.kind = .emergencyAck → ¬ (matching ∧ e.state = .active) →
            exec (.emergencyAck t rx) s = .next (ended s1))
          ∧ (g.kind = .emergencyAck → matching → e.state = .active →
            exec (.emergencyAck t rx) s =
              .next (ended (noted (s1.setEmu { e with state := .acknowledged }) .acknowledged)))
          ∧ (g.kind = .standDown → ¬ matching ∨ e.state = .quiet ∨ e.state = .arming →
            exec (.standDown t rx) s = .next (ended s1))
          ∧ (g.kind = .standDown → matching → e.state = .active ∨ e.state = .acknowledged →
            let quiet := s1.setEmu { e with state := .quiet, beacon := none }
            let accessed := (∃ d, s1.uls.sched = .clearing .beacon d) ∨ ∃ d, s1.uls.sched = .backoff .beacon d
            ∃ s2, (accessed → s2 = quiet.endAccess.choose) ∧ (¬ accessed → s2 = quiet)
              ∧ exec (.standDown t rx) s =
                .next (ended ((noted s2 .stoodDown).setEmu
                  { e with state := .quiet, beacon := none, covert := false })))
/-! ## Chapter 11: the Dispatch Control Unit, and the supply -/

/-- R37, R41, R194, R195, R197: TIME SET in range sets the clock, raises the notice and evaluates the band, and out of
range has no effect; BAR empties the offers, with the BIDs, and bars the cab; REINSTATE ends the bar; RESTART
empties the staging area, the offers, the uplink queue and the messages, raises its notice, and touches nothing
else: an access whose candidate leaves ends, a choice follows where the queue held an entry, and a transmission
runs on.
The layout of the CLOCK summary (log entry 13), and that the choice at a RESTART falls as the queue empties and
that of a lock after the hand-off (log entry 10), are the model's readings. -/
def Obligations.ClockBarRestart : Prop :=
  ∀ (s : State) (t : Stamp) (rx : List Byte) (g : Telegram), s.vdd = true → (s.advanceTo t).hears rx g →
    let s1 := (s.advanceTo t).found g.site
    let ended := (s.advanceTo t).afterReport g.site
    let c : WallClock :=
      { day := natAt g.body 0 2, dayOfWeek := natAt g.body 2 1, second := natAt g.body 3 3 }
    (g.kind = .timeSet → 6 < c.dayOfWeek ∨ 86399 < c.second → exec (.timeSet t rx) s = .next (ended s1))
      ∧ (g.kind = .timeSet → c.dayOfWeek ≤ 6 → c.second ≤ 86399 →
        exec (.timeSet t rx) s =
          .next
            (ended ((s1.setDcu { s1.dcu with clock := some c }).raise .clock 0
              (be 2 c.day ++ be 1 c.dayOfWeek ++ be 3 c.second)).evaluateBand))
      ∧ (g.kind = .bar → s.dcu.barred = false →
        let s2 := s1.setDcu { s1.dcu with barred := true }
        exec (.bar t rx) s =
          .next (ended (((s2.setOffers { s1.offers with table := [] }).removeBids).raise .bar 0 [])))
      ∧ (g.kind = .reinstate → s.dcu.barred = true →
        exec (.reinstate t rx) s =
          .next (ended ((s1.setDcu { s1.dcu with barred := false }).raise .bar 1 [])))
      ∧ (g.kind = .reinstate → s.dcu.barred = false → exec (.reinstate t rx) s = .next (ended s1))
      ∧ (g.kind = .restart →
        let q := (s1.setDcu { s1.dcu with staging := none }).setOffers { s1.offers with table := [] }
        let loses := s1.uls.sched.inAccess = true ∧ ∃ e ∈ s1.uls.queue, e.mark = .candidate
        let finished := fun (q : State) => (q.setMsgs { s1.msgs with store := [] }).raise .restart 0 []
        (s1.uls.queue = [] → exec (.restart t rx) s = .next (ended (finished q)))
          ∧ (s1.uls.queue ≠ [] → loses →
            exec (.restart t rx) s =
              .next (ended (finished (q.setUls { s1.uls with queue := [], sched := .idle }).choose)))
          ∧ (s1.uls.queue ≠ [] → ¬ loses →
            exec (.restart t rx) s = .next (ended (finished (q.setUls { s1.uls with queue := [] }).choose))))

/-- R41, R198: each valid STATUS QUERY queues a STATUS REPLY with its code and contents as they stand; COUNTERS
with the clear flag sets every one of the sixteen counters to 0 before the reply joins; a query with
another code queues nothing.
That each row takes its own code, and the order of a clear and its reply, are the model's readings (log
entries 4 and 26).
Where the report locks the link, the choice of R41 follows the hand-off: the model's reading (log entry 10). -/
def Obligations.StatusQueriesAnswered : Prop :=
  ∀ (s : State) (t : Stamp) (rx : List Byte) (g : Telegram), s.vdd = true → (s.advanceTo t).hears rx g →
    g.kind = .statusQuery →
    let s1 := (s.advanceTo t).found g.site
    let ended := (s.advanceTo t).afterReport g.site
    let code := natAt g.body 0 1
    let version := fun (v : Option Nat) => match v with | some n => 1 :: be 2 n | none => [0, 0, 0]
    let active := (s1.jobs.active.map (fun j => j.number)).getD 0
    let jobState := (s1.jobs.active.map (fun j =>
      if j.state = .assigned then 0 else if j.state = .arrived then 1 else 2)).getD 3
    let counters :=
      [s1.air.counters.crcErrors, s1.air.counters.lengthErrors, s1.air.counters.foreignFleet,
        s1.air.counters.uplinkHeard, s1.air.counters.passedBy, s1.air.counters.unknownKind,
        s1.air.counters.barredDiscards, s1.link.siteMismatches, s1.link.huntPasses, s1.uls.drops,
        s1.uls.displaced, s1.uls.bidsLost, s1.offers.passed, s1.offers.displaced, s1.msgs.lost,
        s1.dcu.loadDiscarded]
    let cleared :=
      { s1 with
        air := { s1.air with
          counters :=
            { crcErrors := 0, lengthErrors := 0, foreignFleet := 0, uplinkHeard := 0, passedBy := 0,
              unknownKind := 0, barredDiscards := 0 } }
        link := { s1.link with siteMismatches := 0, huntPasses := 0 }
        uls := { s1.uls with drops := 0, displaced := 0, bidsLost := 0 }
        offers := { s1.offers with passed := 0, displaced := 0 }
        msgs := { s1.msgs with lost := 0 }
        dcu := { s1.dcu with loadDiscarded := 0 } }
    (code = 0 →
        exec (.statusQueryIdentity t rx) s =
          .next
            (ended (s1.queue .statusReply
              ([0, 0x72, 0x01] ++ be 2 s1.address.fleet ++ be 2 s1.address.cab))))
      ∧ (code = 1 →
        exec (.statusQueryVersions t rx) s =
          .next
            (ended (s1.queue .statusReply
              ([1] ++ version (s1.dcu.address.map (fun v => v.version))
                ++ version (s1.dcu.zoneMap.map (fun v => v.version))
                ++ version (s1.dcu.channels.map (fun v => v.version))
                ++ version (s1.dcu.phrases.map (fun v => v.version))
                ++ version (s1.dcu.operating.map (fun v => v.version))
                ++ version (s1.meter.calibration.map (fun v => v.version))
                ++ version (s1.meter.active.map (fun v => v.version))
                ++ version (s1.meter.pendingBank.map (fun v => v.version))
                ++ [if s1.meter.ready then 1 else 0]))))
      ∧ (code = 2 →
        exec (.statusQueryCounters t rx) s =
          .next
            (ended ((if natAt g.body 1 1 = 0 then s1 else cleared).queue .statusReply
              (2 :: counters.flatMap (be 2)))))
      ∧ (code = 3 →
        exec (.statusQuerySnapshot t rx) s =
          .next
            (ended (s1.queue .statusReply
              ([3] ++ be 1 s1.meter.mode.code ++ be 1 s1.link.mode.code
                ++ be 1 (s1.emu.state.code + (if s1.emu.covert then 4 else 0)
                  + (if s1.dcu.barred then 8 else 0))
                ++ be 2 s1.emu.episode ++ be 1 s1.zone.zone ++ be 2 active
                ++ be 1 (jobState * 64 + s1.jobs.queued.length % 4)))))
      ∧ (3 < code →
        exec (.statusQueryIdentity t rx) s = .next (ended s1) ∧ exec (.statusQueryVersions t rx) s = .next (ended s1)
          ∧ exec (.statusQueryCounters t rx) s = .next (ended s1)
          ∧ exec (.statusQuerySnapshot t rx) s = .next (ended s1))

/-- R41, R188, R189, R193: LOAD OPEN stages a kind and version with every byte 0xFF; LOAD DATA writes the bytes
that lie in the image and counts one when it drops any; the air answers only a locked kind 7, and the cab
port answers each request, LOCKED while CALEN is released.
Where the report locks the link, the choice of R41 follows the hand-off: the model's reading (log entry 10). -/
def Obligations.LoadOpenAndData : Prop :=
  (∀ (m : Memory) (bytes : List Byte) (o a : Nat), m.wf = true →
      (m.writeAll o bytes).read a =
        if o ≤ a ∧ a < o + bytes.length then (bytes[a - o]?).getD 0 else m.read a)
    ∧ (∀ a, Memory.read [] a = 0xFF)
    ∧ ∀ (s : State) (t : Stamp) (calen : Bool), s.vdd = true →
      let s0 := (s.advanceTo t).setCalen calen
      let opened := fun (s : State) (kind : TableKind) (version : Half) =>
        s.setDcu { s.dcu with staging := some { kind := kind, version := version.toNat, image := [] } }
      let counted := fun (s : State) => s.setDcu { s.dcu with loadDiscarded := min 65535 (s.dcu.loadDiscarded + 1) }
      let written := fun (s : State) (g : Staged) (arg : LoadDataArg) =>
        let w := s.setDcu
          { s.dcu with
            staging := some
              { g with
                image := g.image.writeAll arg.offset.toNat
                  (arg.data.take (g.kind.length - arg.offset.toNat)) } }
        if g.kind.length < arg.offset.toNat + arg.data.length then counted w else w
      (∀ rx g, s0.hears rx g → g.kind = .loadOpen →
          let s1 := s0.found g.site
          let ended := s0.afterReport g.site
          let arg := loadOpenArg g.body
          (TableKind.ofCode arg.kind.toNat = none → exec (.loadOpen t calen (.air rx)) s = .next (ended s1))
          ∧ (arg.kind = 7 → calen = false →
            exec (.loadOpen t calen (.air rx)) s =
              .next (ended (s1.queue .loadResult ([7] ++ be 2 arg.version.toNat ++ [4, 0, 0]))))
          ∧ ∀ kind, TableKind.ofCode arg.kind.toNat = some kind → kind ≠ .calibration ∨ calen = true →
            exec (.loadOpen t calen (.air rx)) s = .next (ended (opened s1 kind arg.version)))
        ∧ (∀ rx g, s0.hears rx g → g.kind = .loadData → (loadDataArg g.body).data ≠ [] →
          let s1 := s0.found g.site
          let ended := s0.afterReport g.site
          (s.dcu.staging = none → exec (.loadData t calen (.air rx)) s = .next (ended (counted s1)))
          ∧ ∀ staged, s.dcu.staging = some staged →
            exec (.loadData t calen (.air rx)) s = .next (ended (written s1 staged (loadDataArg g.body))))
        ∧ (s.takes → ∀ arg : LoadOpenArg,
          (calen = false → exec (.loadOpen t calen (.cab arg)) s = .next (s0.replied 0x14 .locked []))
          ∧ (calen = true → TableKind.ofCode arg.kind.toNat = none →
            exec (.loadOpen t calen (.cab arg)) s = .next (s0.replied 0x14 .argument []))
          ∧ ∀ kind, calen = true → TableKind.ofCode arg.kind.toNat = some kind →
            exec (.loadOpen t calen (.cab arg)) s =
              .next ((opened s0 kind arg.version).replied 0x14 .done []))
        ∧ (s.takes → ∀ arg : LoadDataArg, arg.data ≠ [] →
          (calen = false → exec (.loadData t calen (.cab arg)) s = .next (s0.replied 0x15 .locked []))
          ∧ (calen = true → s.dcu.staging = none →
            exec (.loadData t calen (.cab arg)) s = .next ((counted s0).replied 0x15 .state []))
          ∧ ∀ staged, calen = true → s.dcu.staging = some staged →
            exec (.loadData t calen (.cab arg)) s =
              .next
                ((written s0 staged arg).replied 0x15
                  (if staged.kind.length < arg.offset.toNat + arg.data.length then .argument else .done) []))

/-- R190: the check of a staged image: it starts at 0, and for each byte of the image in offset order it is
rotated left by one place within 16 bits and combined with the byte by exclusive-or. -/
def Obligations.CheckOfImage : Prop :=
  (∀ g : Staged, g.check = checkOf ((List.range g.kind.length).map g.image.read))
    ∧ checkOf [] = 0
    ∧ (∀ (bytes : List Byte) (b : Byte),
      (checkOf (bytes ++ [b])).toNat =
        ((checkOf bytes).toNat * 2 % 65536 + (checkOf bytes).toNat / 32768) ^^^ b.toNat)
    ∧ checkOf [0x12] = 0x0012 ∧ checkOf [0x12, 0x34] = 0x0010 ∧ checkOf [0x12, 0x34, 0xFF] = 0x00DF

/-- R41, R191, R193: the tests of a LOAD COMMIT in order, the staging area after each outcome, the LOAD RESULT on
the air, and the response on the cab port with its outcome and bad offset (log entry 13).
Where the report locks the link, the choice of R41 follows the hand-off: the model's reading (log entry 10). -/
def Obligations.LoadCommitOutcomes : Prop :=
  ∀ (s : State) (t : Stamp) (calen : Bool) (check : Half), s.vdd = true →
    let s0 := (s.advanceTo t).setCalen calen
    let tested := fun (q : State) (answer : State → LoadOutcome → Host.Outcome State Fault Refusal → Prop)
        (o : Host.Outcome State Fault Refusal) =>
      let discarded := q.setDcu { q.dcu with staging := none }
      (s.dcu.staging = none → answer q .notOpen o)
        ∧ ∀ g, s.dcu.staging = some g →
          (check ≠ g.check → answer discarded .check o)
          ∧ (∀ n, check = g.check → g.badField = some n → answer discarded (.invalid n) o)
          ∧ (check = g.check → g.badField = none → g.kind = .calibration → calen = false →
            answer discarded .locked o)
          ∧ (check = g.check → g.badField = none → g.kind = .calibration → calen = true →
            s.meter.mode = .hired ∨ s.meter.mode = .stopped → answer q .busy o)
          ∧ (check = g.check → g.badField = none →
            g.kind ≠ .calibration ∨ (calen = true ∧ s.meter.mode ≠ .hired ∧ s.meter.mode ≠ .stopped) →
            answer (q.commit g) .done o)
    (∀ rx g, s0.hears rx g → g.kind = .loadCommit → natAt g.body 0 2 = check.toNat →
        let kind := (s.dcu.staging.map (fun g => g.kind.code)).getD 0
        let version := (s.dcu.staging.map (fun g => g.version)).getD 0
        tested (s0.found g.site)
          (fun q outcome o =>
            o = .next
              (s0.afterReport g.site
                (q.queue .loadResult
                  (be 1 kind ++ be 2 version ++ be 1 outcome.code ++ be 2 (outcome.badOffset.getD 0)))))
          (exec (.loadCommit t calen (.air rx)) s))
      ∧ (s.takes → calen = false →
        exec (.loadCommit t calen (.cab check)) s = .next (s0.replied 0x16 .locked []))
      ∧ (s.takes → calen = true →
        tested s0.toHunt
          (fun q outcome o =>
            let code := match outcome with
              | .done => RespCode.done
              | .notOpen | .busy => .state
              | .check | .invalid _ => .argument
              | .locked => .locked
            o = .next
              (q.respond 0x16 code [be 1 outcome.code,
                match outcome with
                  | .invalid n => 1 :: be 2 n
                  | _ => [0, 0, 0]]))
          (exec (.loadCommit t calen (.cab check)) s))

/-- R27, R45, R52, R65, R86, R121, R134, R192: what a commit with outcome DONE does at the table of its kind and
its owner, followed by a TABLE notice. A lock whose channel is gone is left as R27 and R52 of section 3.8 say:
any access ends, a LINK notice is raised, and the link hunts from entry 0.
That the removal of the BIDs and the choice after it come before the seed of an ADDRESS commit (log entry 10),
that the LINK notice shows HUNTING with the entry that was locked, as the old list holds it (log entry 11),
the pending byte of the TABLE notice (log entry 13) and bits 7 to 2 of a tune word's second byte (log entry 31) are the model's choices. -/
def Obligations.CommitOfEachKind : Prop :=
  ∀ (s : State) (g : Staged),
    let base := { s.dcu with staging := none }
    let notice := fun (s : State) =>
      s.raise .table 0 (be 1 g.kind.code ++ be 2 g.version ++ [if g.kind = .tariffSet then 1 else 0])
    let zone := fun (c : Cell) => (g.image.read (c.row * 64 + c.col)).toNat
    (g.kind = .address →
        let r := AddressRecord.ofImage g.image
        let s1 := s.setDcu { base with address := some { version := g.version, table := r } }
        let s2 := (s1.setOffers { s.offers with table := [] }).removeBids
        s.commit g = notice (s2.setUls { s2.uls with rng := r.cab }))
      ∧ (g.kind = .zoneMap →
        let s1 := s.setDcu { base with zoneMap := some { version := g.version, table := g.image } }
        (s.zone.cell = none → s.commit g = notice s1)
        ∧ ∀ c, s.zone.cell = some c →
          let s2 := s1.setZone { s.zone with zone := zone c }
          s.commit g =
            notice
              (if zone c ≠ s.zone.zone ∧ zone c ≠ 0 ∧ s.meter.mode = .vacant ∧ s.dcu.barred = false
                  ∧ s.op.zoneReporting = true then
                s2.queue .zoneChange (be 1 (zone c) ++ [s.address.attributes])
              else s2))
      ∧ (g.kind = .channels → s.link.mode ≠ .locked →
        let s1 := s.setDcu
          { base with channels := some { version := g.version, table := channelsOfImage g.image } }
        s.commit g = notice (s1.setLink (s1.huntsAt 0 s.link.huntPasses)))
      ∧ (∀ c, g.kind = .channels → s.link.mode = .locked → s.channels[s.link.entry]? = some c →
        let list := channelsOfImage g.image
        let s1 := s.setDcu { base with channels := some { version := g.version, table := list } }
        (∀ i x, list[i]? = some x → x.number = c.number → x.site = s.link.lockedSite ∨ x.site = none →
            (∀ j y, j < i → list[j]? = some y →
              ¬ (y.number = c.number ∧ (y.site = s.link.lockedSite ∨ y.site = none))) →
            s.commit g = notice (s1.setLink { s.link with entry := i }))
          ∧ (∀ i x, list[i]? = some x → x.number = c.number →
            (∀ y ∈ list, ¬ (y.number = c.number ∧ (y.site = s.link.lockedSite ∨ y.site = none))) →
            (∀ j y, j < i → list[j]? = some y → y.number ≠ c.number) →
            s.commit g = notice (s1.setLink { s.link with entry := i }))
          ∧ ((∀ y ∈ list, y.number ≠ c.number) →
            let q := s1.endAccess.setLink { s1.endAccess.link with mode := .hunting, lockedSite := none }
            s.commit g =
              notice
                ((q.raise .link 1
                  (be 1 1 ++ (1 :: be 1 s.link.entry) ++ (1 :: be 2 c.number) ++ (1 :: be 1 c.role.code)
                    ++ [0, 0])).setLink (q.huntsAt 0 s.link.huntPasses))))
      ∧ (g.kind = .tariffSet →
        s.commit g =
          notice
            ((s.setDcu base).setMeter
              { s.meter with
                pendingBank := some { version := g.version, set := TariffSet.ofImage g.image }
                ready := true }))
      ∧ (g.kind = .phraseBook →
        s.commit g =
          notice (s.setDcu { base with phrases := some { version := g.version, table := g.image } }))
      ∧ (g.kind = .operating →
        let r := OpRecord.ofImage g.image
        s.commit g =
          notice (s.setDcu { base with operating := some { version := g.version, table := r } }).choose)
      ∧ (g.kind = .calibration →
        s.commit g =
          notice
            ((s.setDcu base).setMeter
              { s.meter with
                calibration := some
                  { version := g.version, k := g.image.natAt 0 2, vmax := g.image.natAt 2 1 }
                residue := 0 }))

/-- R32, R55, R135, R139, R150, R153, R199, R200: the supply: the latch of VBAK, the loss of main power, and the
state after power-on with a lost and with a valid retained store: what is kept, the trip in progress closed
UNSETTLED, and the notices raised.
What the supply commands do to the pins and to a part without power is the model's choice (log entries
16 and 17), and so are the notices' causes and order of fields (log entries 11 and 13). -/
def Obligations.SupplyAndRetainedStore : Prop :=
  ∀ s : State,
    let zeroed := s.trips.log.map (Option.map (fun h => { h with closeStamp := 0 }))
    (exec .vbakFall s = .next (if s.vdd then s else { s with vbakLatch := true }))
      ∧ (s.vdd = false → exec .lossOfMainPower s = .next s)
      ∧ (s.vdd = true →
        ∃ q, exec .lossOfMainPower s = .next q ∧ q.vdd = false ∧ q.vbakLatch = s.vbakLatch ∧ q.calen = s.calen
          ∧ q.pending = s.pending ∧ q.uls.queue = [] ∧ q.uls.sched = .idle ∧ q.offers.table = []
          ∧ q.jobs.jobs = [] ∧ q.msgs.store = [] ∧ q.emu.state = .quiet ∧ q.meter = { s.meter with m := 0 }
          ∧ q.dcu = { s.dcu with staging := none, loadDiscarded := 0 }
          ∧ q.trips = { s.trips with log := zeroed })
      ∧ ∃ q, exec .powerOn s = .next q ∧ q.vdd = true ∧ q.vbakLatch = false ∧ q.calen = s.calen ∧ q.ms = 0
        ∧ q.pending = s.pending ∧ q.uls.queue = [] ∧ q.uls.sched = .idle ∧ q.uls.window = q.op.minWindow
        ∧ q.uls.rng = q.address.cab ∧ q.offers.table = [] ∧ q.jobs.jobs = [] ∧ q.msgs.store = []
        ∧ q.emu.state = .quiet ∧ q.zone.zone = 0 ∧ q.dcu.staging = none ∧ q.dcu.loadDiscarded = 0
        ∧ q.meter.trip = none ∧ q.meter.m = 0
        ∧ (q.link.mode = if q.dcu.channels = none then .nochan else .hunting)
        ∧ (s.vbakLatch = true →
          q.dcu.address = none ∧ q.dcu.zoneMap = none ∧ q.dcu.channels = none ∧ q.dcu.phrases = none
            ∧ q.dcu.operating = none ∧ q.dcu.barred = false ∧ q.dcu.clock = none
            ∧ q.dcu.retainedValid = false ∧ q.meter.mode = .offShift ∧ q.meter.residue = 0
            ∧ q.meter.active = none ∧ q.meter.pendingBank = none ∧ q.meter.ready = false
            ∧ q.meter.calibration = none ∧ q.trips.log = List.replicate 16 none ∧ q.trips.current = none
            ∧ q.trips.previous = none ∧ q.trips.lastShift = 0 ∧ q.trips.sequence = 1
            ∧ q.trips.odometer = 0
            ∧ q.cab =
              { CabPort.reset with
                sending := some (frameBytes 0x81 [9, 1, 0])
                waiting := [.notice .link 2 [0, 0, 0, 0, 0, 0, 0, 0, 0, 0]] })
        ∧ (s.vbakLatch = false →
          let c := s.channels[0]?
          let summary := if s.dcu.channels = none then [0, 0, 0, 0, 0, 0, 0, 0, 0, 0]
            else
              be 1 1 ++ optional 1 (c.map (fun _ => 0)) ++ optional 2 (c.map (fun c => c.number))
                ++ optional 1 (c.map (fun c => c.role.code)) ++ [0, 0]
          q.dcu = { s.dcu with staging := none, loadDiscarded := 0, retainedValid := true }
            ∧ q.cab = { CabPort.reset with sending := some (frameBytes 0x81 ([5, 2, 0] ++ summary)) }
            ∧ (s.meter.trip = none →
              q.meter = { s.meter with m := 0 } ∧ q.trips = { s.trips with log := zeroed })
            ∧ ∀ p, s.meter.trip = some p →
              let record : TripRecord :=
                { sequence := s.trips.sequence, job := p.job, shift := p.shift, start := p.start,
                  seconds := p.seconds, metres := p.metres, firstTariff := p.firstTariff,
                  lastTariff := p.lastTariff, drops := p.drops, fare := p.fare, extras := p.extras,
                  surcharge := p.surcharge, price := p.price, charged := p.charged, form := .unsettled,
                  account := none, limit := p.limit || decide (999999 < p.uncapped), clamp := p.clamp,
                  resumed := p.resumed, power := true }
              let lost := match s.trips.log[s.trips.sequence % 16]? with
                | some (some h) => !h.reported
                | _ => false
              q.meter = { s.meter with m := 0, mode := .vacant, trip := none }
                ∧ q.trips =
                  { s.trips with
                    sequence := if 4294967295 ≤ s.trips.sequence then 1 else s.trips.sequence + 1
                    log := zeroed.set (s.trips.sequence % 16)
                      (some { record := record, reported := false, closeStamp := 0 })
                    current := s.trips.current.map (fun r =>
                      { r with
                        unreportedLost := if lost then min 65535 (r.unreportedLost + 1) else r.unreportedLost
                        trips := min 65535 (r.trips + 1)
                        hiredMetres := sumUp r.hiredMetres p.metres
                        hiredSeconds := sumUp r.hiredSeconds p.seconds
                        fareSum := sumUp r.fareSum p.fare
                        extrasSum := sumUp r.extrasSum p.extras
                        surchargeSum := sumUp r.surchargeSum p.surcharge
                        chargedSum := sumUp r.chargedSum p.charged
                        cashSum := sumUp r.cashSum 0
                        cardSum := sumUp r.cardSum 0
                        accountSum := sumUp r.accountSum 0
                        unsettledSum := sumUp r.unsettledSum p.charged
                        fixedTrips := if p.price.isSome then min 65535 (r.fixedTrips + 1) else r.fixedTrips
                        interrupted := min 65535 (r.interrupted + 1)
                        firstTrip := some (r.firstTrip.getD s.trips.sequence)
                        lastTrip := some s.trips.sequence }) })
/-! ## Chapter 12: the cab port -/

/-- R203, R205: a request that completes while four responses wait is not taken: it reaches no block, gets no
RESPONSE and is counted, and marks the next RESPONSE; with fewer waiting it gets exactly one RESPONSE, the
last frame to join, carrying the mark: behind the frames that wait while CTXD is busy, and on a free CTXD with
nothing waiting, leaving at once or behind the notices of the request itself.
That assembly returns to HUNT, and the level of CALEN, come with the command (log entries 5 and 6), and that a
RESPONSE of over 61 result bytes leaves in parts is the model's choice (log entry 14). -/
def Obligations.EachRequestAnsweredOrOverrun : Prop :=
  ∀ (i : Instr) (s : State) (t : Stamp) (kind : Byte) (body : List Byte), s.vdd = true → i.stamp = some t →
    i.request = some (kind, body) →
    (4 ≤ s.cab.responses →
        exec i s =
          .next
            { s.advanceTo t with
              calen := i.calenLevel.getD s.calen
              cab := { s.cab with
                assembly := .hunt
                requestsOverrun := min 65535 (s.cab.requestsOverrun + 1)
                overrunMark := true } })
      ∧ (s.cab.responses < 4 →
        ∃ (q : State) (code : RespCode) (fields : List (List Byte)), exec i s = .next (q.respond kind code fields)
          ∧ q.cab.overrunMark = s.cab.overrunMark
          ∧ (q.respond kind code fields).cab.overrunMark = false
          ∧ (let mark : Byte := if s.cab.overrunMark then 1 else 0
            let response := OutFrame.response kind code.byte mark fields.flatten
            let after := (q.respond kind code fields).cab
            (s.cab.sending ≠ none →
              q.cab.sending = s.cab.sending ∧ q.cab.responses = s.cab.responses
                ∧ after.waiting = q.cab.waiting ++ [response])
            ∧ (s.cab.CtxdServed → s.cab.sending = none →
              q.cab.responses = 0
                ∧ ((q.cab.sending = none ∧ q.cab.waiting = [] ∧ after.waiting = response.rest
                    ∧ after.sending =
                      some (frameBytes 0x80 ([kind, code.byte, mark] ++ fields.flatten.take 61)))
                  ∨ ∃ notice, q.cab.sending = some (frameBytes 0x81 notice) ∧ after.sending = q.cab.sending
                    ∧ after.waiting = q.cab.waiting ++ [response]))))

/-- R201, R204 to R206: a frame's form; a notice of a disabled kind does not join; an enabled one leaves at
once on a free CTXD, waits behind the others, and in a list with 20 notices displaces the oldest; FRAME_SENT
lets the next frame leave, of a RESPONSE up to 61 result bytes in one frame; NOTICE MASK replaces the mask.
That FRAME_SENT does nothing on a free CTXD (log entry 3), and that a longer RESPONSE leaves in parts, one frame
behind the other (log entry 14), are the model's choices. -/
def Obligations.FramesLeaveInOrder : Prop :=
  (∀ (kind : Byte) (body : List Byte), ∃ check,
      frameBytes kind body = [0x7E, BitVec.ofNat 8 body.length, kind] ++ body ++ [check]
        ∧ (BitVec.ofNat 8 body.length :: kind :: body ++ [check]).foldl (· + ·) 0 = 0)
    ∧ (∀ (s : State) (kind : NoticeKind) (cause : Nat) (summary : List Byte),
      let c := s.cab
      let enabled := c.mask.getLsbD kind.code = true
      let f := OutFrame.notice kind (BitVec.ofNat 8 cause) summary
      (¬ enabled → s.raise kind cause summary = s)
      ∧ (enabled → c.sending = none → c.waiting = [] →
        s.raise kind cause summary =
          s.setCab
            { c with
              sending := some
                (frameBytes 0x81
                  ([BitVec.ofNat 8 kind.code, BitVec.ofNat 8 cause, BitVec.ofNat 8 c.droppedSince]
                    ++ summary))
              droppedSince := 0 })
      ∧ (enabled → c.sending ≠ none → c.notices < 20 →
        s.raise kind cause summary = s.setCab { c with waiting := c.waiting ++ [f] })
      ∧ ∀ front g back, enabled → c.sending ≠ none → 20 ≤ c.notices → c.waiting = front ++ g :: back →
        (∀ x ∈ front, x.isResponse = true) → g.isResponse = false →
        s.raise kind cause summary =
          s.setCab
            { c with
              waiting := front ++ back ++ [f]
              noticesLost := min 65535 (c.noticesLost + 1)
              droppedSince := min 255 (c.droppedSince + 1) })
    ∧ ∀ (s : State) (t : Stamp), s.vdd = true →
      let s0 := s.advanceTo t
      let c := s.cab
      (c.sending = none → exec (.frameSent t) s = .next s0)
        ∧ (c.sending ≠ none → c.waiting = [] →
          exec (.frameSent t) s = .next (s0.setCab { c with sending := none }))
        ∧ (∀ kind code mark result rest, c.sending ≠ none →
          c.waiting = .response kind code mark result :: rest →
          (result.length ≤ 61 →
            exec (.frameSent t) s =
              .next
                (s0.setCab
                  { c with
                    waiting := rest
                    sending := some (frameBytes 0x80 ([kind, code, mark] ++ result)) }))
          ∧ (61 < result.length →
            exec (.frameSent t) s =
              .next
                (s0.setCab
                  { c with
                    waiting := .response kind code 0 (result.drop 61) :: rest
                    sending := some (frameBytes 0x80 ([kind, code, mark] ++ result.take 61)) })))
        ∧ (∀ kind cause summary rest, c.sending ≠ none → c.waiting = .notice kind cause summary :: rest →
          exec (.frameSent t) s =
            .next
              (s0.setCab
                { c with
                  waiting := rest
                  sending := some
                    (frameBytes 0x81
                      ([BitVec.ofNat 8 kind.code, cause, BitVec.ofNat 8 c.droppedSince] ++ summary))
                  droppedSince := 0 }))
        ∧ ∀ enables : Half, s.takes →
          exec (.noticeMask t enables) s =
            .next
              ((s0.setCab { c with mask := enables.setWidth 10 }).replied 0x13 .done
                [be 2 (enables.toNat % 1024)])

/-- R201, R202, R207: frame assembly byte by byte: HUNT, FRAME and DISCARD, the 20 ms gap, which a byte that comes
after it finds taken, and the refusals with UNKNOWN and FRAME; a byte that completes a bad frame is the refusal of
that frame, a READ frame that names no record is answered ARGUMENT, and a FIELDS read does not read its parameter.
What a timeout does before the gap (log entry 3), and that the last byte takes the frame and an item over 2 names
no record (log entry 5), are the model's readings. -/
def Obligations.FrameAssembly : Prop :=
  ∀ (s : State) (t : Stamp), s.vdd = true →
    let s0 := s.advanceTo t
    let refused := fun (kind : Byte) (code : RespCode) (a : Assembly) =>
      let q := s0.setCab { s.cab with assembly := a }
      if 4 ≤ s.cab.responses then
        q.setCab
          { q.cab with requestsOverrun := min 65535 (s.cab.requestsOverrun + 1), overrunMark := true }
      else q.respond kind code []
    (∀ kind, exec (.unknownRequest t kind) s = .next (refused kind .unknown .hunt))
      ∧ (∀ n, exec (.frameRefused t (.lengthOver n)) s = .next (refused 0 .frame (.discard s0.now)))
      ∧ (exec (.frameRefused t .check) s = .next (refused 0 .frame .hunt))
      ∧ (∀ kind, exec (.frameRefused t (.bodyLength kind)) s = .next (refused kind .frame .hunt))
      ∧ (s.cab.assembly = .hunt → exec (.assemblyTimeout t) s = .next s0)
      ∧ (∀ got last, s.cab.assembly = .frame got last →
        exec (.assemblyTimeout t) s =
          .next (if last + 20 ≤ s0.now then refused 0 .frame .hunt else s0))
      ∧ (∀ last, s.cab.assembly = .discard last →
        exec (.assemblyTimeout t) s =
          .next (if last + 20 ≤ s0.now then s0.setCab { s.cab with assembly := .hunt } else s0))
      ∧ ∀ (calen : Bool) (b : Byte),
        let become := fun (a : Assembly) =>
          exec (.cabPortByteReceived t calen b) s =
            .next ((s0.setCalen calen).setCab { s.cab with assembly := a })
        let as := fun (i : Instr) => exec (.cabPortByteReceived t calen b) s = exec i { s with calen := calen }
        (s.cab.assembly = .hunt → become (if b = 0x7E then .frame [] s0.now else .hunt))
          ∧ (∀ last, s.cab.assembly = .discard last ∨ (∃ got, s.cab.assembly = .frame got last) →
            last + 20 ≤ s0.now →
            ∃ s1, exec (.assemblyTimeout t) s = .next s1 ∧ s1.cab.assembly = .hunt
              ∧ exec (.cabPortByteReceived t calen b) s = exec (.cabPortByteReceived t calen b) s1)
          ∧ (∀ last, s.cab.assembly = .discard last → s0.now < last + 20 → become (.discard s0.now))
          ∧ (∀ last, s.cab.assembly = .frame [] last → s0.now < last + 20 →
            (b.toNat ≤ 64 → become (.frame [b] s0.now))
            ∧ (64 < b.toNat → as (.frameRefused t (.lengthOver b))))
          ∧ ∀ n got last, s.cab.assembly = .frame (n :: got) last → s0.now < last + 20 →
            let kind := byteAt (got ++ [b]) 0
            let length := got.length - 1
            let body := got.drop 1
            let selector := (byteAt body 0).toNat
            let item := (byteAt body 3).toNat
            let good := (n :: got ++ [b]).foldl (· + ·) 0 = 0
            (got.length ≠ n.toNat + 1 → become (.frame (n :: got ++ [b]) s0.now))
            ∧ (got.length = n.toNat + 1 → ¬ good → as (.frameRefused t .check))
            ∧ (got.length = n.toNat + 1 → good → isRequestKind kind = false → as (.unknownRequest t kind))
            ∧ (got.length = n.toNat + 1 → good → isRequestKind kind = true →
              length < (requestBounds kind.toNat).1 ∨ (requestBounds kind.toNat).2 < length →
              as (.frameRefused t (.bodyLength kind)))
            ∧ (got.length = n.toNat + 1 → good → kind = 0x0D → 1 ≤ length → length ≤ 5 →
              (selector, length) ∉
                  [(0, 1), (0, 4), (1, 1), (1, 4), (2, 1), (3, 5), (4, 2), (5, 1), (6, 5), (7, 1), (8, 1), (9, 1)]
                ∨ (selector = 6 ∧ 2 < item) →
              exec (.cabPortByteReceived t calen b) s =
                .next ((refused 0x0D .argument .hunt).setCalen calen))
            ∧ (got.length = n.toNat + 1 → good → kind = 0x0D → length = 5 → selector = 6 → item = 0 →
              as (.readMessageFields t (BitVec.ofNat 16 (natAt body 1 2))))

/-- Sections 12.1 and 13.4, R201, R203: for every well-formed request of the cab port, the byte that, within
20 ms of the one before, completes the frame of its kind and body is that request: encoding the request and taking the frame byte by byte give
the request's own effect.
The last byte is the request by the model's choice (log entry 5). -/
def Obligations.CompletedFrameIsItsRequest : Prop :=
  ∀ (i : Instr) (s : State) (t : Stamp) (calen : Bool) (kind : Byte) (body : List Byte) (last : Nat),
    s.vdd = true → i.wellFormed = true → i.stamp = some t → i.request = some (kind, body) →
    i.calenLevel = none ∨ i.calenLevel = some calen →
    s.cab.assembly = .frame (BitVec.ofNat 8 body.length :: kind :: body) last →
    (s.advanceTo t).now < last + 20 →
    exec (.cabPortByteReceived t calen (checkByte kind body)) s = exec i { s with calen := calen }

/-- R29, R89, R107, R133, R151, R168, R184, R207: every READ changes nothing but the cab port, and is
answered with the record it selects as it stands, field by field, ARGUMENT or STATE. A list that fits its
RESPONSE is returned whole, and no list makes a result longer than 61 bytes.
The layout of a record is read as log entries 13 and 14 say. -/
def Obligations.ReadsReturnTheirRecords : Prop :=
  (∀ (items : List ListItem) (counts : List (List Byte)), counts.flatten.length ≤ 59 →
      let whole := fun (i : ListItem) => i.fields ++ match i.text with
        | some x =>
          be 1 x.positions.length
            ++ x.positions.map (fun p => BitVec.ofNat 8 (p.char.toNat + if p.emphasis then 128 else 0))
            ++ [flagByte x.truncated]
        | none => []
      (listFields items counts).flatten.length ≤ 61
        ∧ (2 + counts.flatten.length + (items.map whole).flatten.length ≤ 61 →
          listFields items counts = be 1 items.length :: counts ++ [be 1 items.length] ++ items.map whole))
    ∧ ∀ (s : State) (t : Stamp), s.takes →
    let s0 := s.advanceTo t
    let stamp := fun (w : Option WallStamp) => match w with
      | some w => 1 :: (be 2 w.day ++ be 3 w.second)
      | none => [0, 0, 0, 0, 0, 0]
    let left := fun (deadline : Nat) => min 16777215 ((deadline - s0.now) / 1000)
    let leftUp := fun (deadline : Nat) => min 16777215 ((deadline - s0.now + 999) / 1000)
    let bits := fun (l : List Bool) => l.foldr (fun (b : Bool) (n : Nat) => 2 * n + if b then 1 else 0) 0
    let offerItem := fun (e : OfferEntry) =>
      { fields := be 2 e.number ++ be 1 e.kind.code ++ be 1 e.state.code ++ be 1 e.zone ++ [flagByte e.reach]
          ++ [e.required] ++ optional 3 e.price ++ stamp e.pickupTime
          ++ be 3 (left (if e.state = .offered then e.decision else e.lapse))
        text := some e.summary : ListItem }
    let jobItem := fun (place : Nat) (j : Job) =>
      { fields := be 2 j.number ++ be 1 j.source.code ++ optional 2 j.offer ++ be 1 j.kind.code ++ be 1 j.zone
          ++ be 1 place ++ be 1 j.state.code ++ optional 3 j.account ++ optional 3 j.price ++ stamp j.pickupTime
          ++ be 3 (min 16777215 ((s0.now - j.placed) / 1000))
          ++ optional 3
            (if j.state = .arrived then some (leftUp (j.arrived.getD 0 + 1000 * s.op.noShowWait)) else none)
        text := some j.text : ListItem }
    let message := fun (x : Message) =>
      be 2 x.number ++ be 1 x.cls.code ++ optional 2 x.job ++ be 1 x.state.code ++ optional 1 x.group
        ++ stamp x.received ++ optional 3 (x.life.map (fun l => l.minutes * 60 - l.seconds))
        ++ be 1 x.text.positions.length ++ [flagByte x.text.truncated]
    let banks : List (List Byte) :=
      [match s.meter.calibration with | some c => 1 :: be 2 c.k ++ be 1 c.vmax | none => [0, 0, 0, 0],
        be 2 s.meter.residue, optional 2 (s.meter.active.map (fun b => b.version)),
        optional 2 (s.meter.pendingBank.map (fun b => b.version)), [flagByte s.meter.ready]]
    let threshold := fun (p : Trip) => match s.tariff p.tariff with
      | some T => if p.threshold = .first then T.firstStep * (T.distance * T.time) else T.distance * T.time
      | none => 0
    let grace := (s.meter.active.map (fun b => b.set.grace)).getD 0
    let trip := fun (p : Trip) =>
      [optional 2 p.job, be 2 p.shift, stamp p.start, be 1 p.tariff, be 1 p.firstTariff, be 1 p.lastTariff,
        be 4 p.progress, be 1 p.threshold.code, be 4 p.drops, be 3 p.fare, be 3 p.extras,
        (p.extrasCounts.map (be 1)).flatten, be 3 p.surcharge, optional 3 p.price, optional 3 p.account,
        be 4 p.seconds, be 4 p.metres, [flagByte p.part], optional 6 p.stopStamp,
        be 1 (bits [p.limit, p.clamp, p.resumed]), be 4 (threshold p), be 3 p.charged,
        be 3 (if s.meter.mode = .stopped then left (p.stopStamp.getD 0 + 1000 * grace) else 0)]
    let record := fun (h : HeldTrip) =>
      let r := h.record
      [be 4 r.sequence, optional 2 r.job, be 2 r.shift, stamp r.start, be 4 r.seconds, be 4 r.metres,
        be 1 r.firstTariff, be 1 r.lastTariff, be 4 r.drops, be 3 r.fare, be 3 r.extras, be 3 r.surcharge,
        optional 3 r.price, be 3 r.charged, be 1 r.form.code, optional 3 r.account,
        be 1 (bits [r.limit, r.clamp, r.resumed, r.power]), [flagByte h.reported],
        be 1 ((s.trips.log.filterMap id).countP (fun h => !h.reported))]
    let shift := fun (r : ShiftRecord) =>
      [be 2 r.number, be 2 r.driver, stamp r.opened, stamp r.closed, be 2 r.trips, be 2 r.fixedTrips,
        be 2 r.interrupted, be 4 r.hiredMetres, be 4 r.hiredSeconds, be 4 r.vacantMetres, be 4 r.fareSum,
        be 4 r.extrasSum, be 4 r.surchargeSum, be 4 r.chargedSum, be 4 r.cashSum, be 4 r.cardSum,
        be 4 r.accountSum, be 4 r.unsettledSum, be 2 r.faults, be 4 r.clampedMetres, optional 4 r.firstTrip,
        optional 4 r.lastTrip, be 2 r.unreportedLost, be 4 s.trips.odometer, be 4 s.trips.sequence]
    let is := fun (i : Instr) (code : RespCode) (fields : List (List Byte)) =>
      exec i s = .next (s0.replied 0x0D code fields)
    let text := fun (number : Half) (first : Byte) (x : Text) =>
      let shown := (x.positions.drop first.toNat).take 55
      [be 2 number.toNat, [first], be 1 shown.length, be 1 x.positions.length, [flagByte x.truncated],
        shown.map (fun p => BitVec.ofNat 8 (p.char.toNat + if p.emphasis then 128 else 0))]
    let current := if s.link.mode = .nochan then none else s.channels[s.link.entry]?
    let jobs := s.jobs.active.toList ++ s.jobs.queued
    (is (.readOfferTable t) .done (listFields (s.offers.table.map offerItem) []))
      ∧ (is (.readJobBook t) .done
        (listFields (s.jobs.active.toList.map (jobItem 0) ++ s.jobs.queued.map (jobItem 1)) []))
      ∧ (is (.readMessageList t) .done
        (listFields (s.msgs.store.map (fun x => { fields := message x, text := none }))
          [be 1 (s.msgs.store.countP (fun x => x.state == .unread))]))
      ∧ (∀ (n : Half) (first : Byte), 79 < first.toNat → is (.readOfferText t n first) .argument [])
      ∧ (∀ (n : Half) (first : Byte), first.toNat ≤ 79 →
        (s.offers.find n.toNat = none → is (.readOfferText t n first) .state [])
        ∧ ∀ e, s.offers.find n.toNat = some e → is (.readOfferText t n first) .done (text n first e.summary))
      ∧ (∀ (n : Half) (first : Byte), 119 < first.toNat → is (.readJobText t n first) .argument [])
      ∧ (∀ (n : Half) (first : Byte), first.toNat ≤ 119 →
        (jobs.find? (fun j => j.number == n.toNat) = none → is (.readJobText t n first) .state [])
        ∧ ∀ j, jobs.find? (fun j => j.number == n.toNat) = some j →
          is (.readJobText t n first) .done (text n first j.text))
      ∧ (∀ (n : Half) (first : Byte), 239 < first.toNat → is (.readMessageText t n first) .argument [])
      ∧ (∀ (n : Half) (first : Byte), first.toNat ≤ 239 →
        (s.msgs.find n.toNat = none → is (.readMessageText t n first) .state [])
        ∧ ∀ x, s.msgs.find n.toNat = some x → is (.readMessageText t n first) .done (text n first x.text))
      ∧ (∀ n : Half,
        (s.msgs.find n.toNat = none → is (.readMessageFields t n) .state [])
        ∧ ∀ x, s.msgs.find n.toNat = some x →
          is (.readMessageFields t n) .done
            (message x :: byteList ((s.replyPhrases x).map (be 1))))
      ∧ (∀ (n : Half) (phrase : Byte),
        (phrase.toNat < 96 ∨ 127 < phrase.toNat → is (.readMessagePhrase t n phrase) .argument [])
        ∧ (96 ≤ phrase.toNat → phrase.toNat ≤ 127 → s.msgs.find n.toNat = none →
          is (.readMessagePhrase t n phrase) .state [])
        ∧ (96 ≤ phrase.toNat → phrase.toNat ≤ 127 → s.msgs.find n.toNat ≠ none →
          is (.readMessagePhrase t n phrase) .done
            (byteList ((s.driverPhrase phrase.toNat).map (fun c => [c.setWidth 8])))))
      ∧ (s.meter.trip = none → is (.readMeter t) .done (be 1 s.meter.mode.code :: banks))
      ∧ (∀ p, s.meter.trip = some p → is (.readMeter t) .done (be 1 s.meter.mode.code :: trip p ++ banks))
      ∧ (∀ n : BitVec 32,
        (s.trips.named n.toNat = none → is (.readTrip t n) .state [])
        ∧ ∀ h, s.trips.named n.toNat = some h → is (.readTrip t n) .done (record h))
      ∧ (∀ which : Byte,
        let selected := if which = 0 then s.trips.current else s.trips.previous
        (1 < which.toNat → is (.readShift t which) .argument [])
        ∧ (which.toNat ≤ 1 → selected = none → is (.readShift t which) .state [])
        ∧ ∀ r, which.toNat ≤ 1 → selected = some r → is (.readShift t which) .done (shift r))
      ∧ (is (.readLink t) .done
        [be 1 s.link.mode.code, optional 1 (if s.link.mode = .hunting then some s.link.phase.code else none),
          optional 1 (current.map (fun _ => s.link.entry)), optional 2 (current.map (fun c => c.number)),
          optional 1 (current.map (fun c => c.site.getD 0xFF)), optional 1 (current.map (fun c => c.role.code)),
          optional 1 (if s.link.mode = .locked then s.link.lockedSite else none), be 1 s.channels.length,
          be 2 s.link.siteMismatches, be 2 s.link.huntPasses])
      ∧ (s.emu.state = .quiet ∨ (s.emu.inCall = true ∧ s.emu.covert = true) →
        is (.readEmergency t) .done [[0]])
      ∧ (s.emu.state = .arming →
        is (.readEmergency t) .done [[1], be 3 (min 16777215 ((s.emu.grace.getD 0 - s0.now + 999) / 1000))])
      ∧ (s.emu.inCall = true → s.emu.covert = false →
        is (.readEmergency t) .done
          [be 1 s.emu.state.code, be 2 s.emu.episode, be 2 s.emu.beacons, be 2 s.emu.presses,
            be 2 s.emu.cancels, be 3 (min 16777215 ((s.emu.beacon.getD 0 - s0.now + 999) / 1000))])
      ∧ is (.readCounters t) .done
        (s.counters.map (be 2) ++ [be 2 s.cab.requestsOverrun, be 2 s.cab.noticesLost])
/-! ## The whole machine -/

/-- Log entry 2: a step takes the command at the front of the queue and
runs its effect on the part with the rest of the queue; on an empty queue the part idles. -/
def Obligations.StepRunsFrontCommand : Prop :=
  (∀ (c : Instr) (rest : List Instr) (s : State), s.pending = c :: rest →
      step s = exec c { s with pending := rest })
    ∧ ∀ s : State, s.pending = [] → step s = .next s

/-- R199, R208: the state after reset is the state that a power-on with a lost retained store leaves, with the
pins low and no command waiting (log entry 7); and it meets every invariant stated below. -/
def Obligations.ResetIsLostStorePowerOn : Prop :=
  (∀ s : State, s.vbakLatch = true →
      exec .powerOn s = .next { State.reset with cd := s.cd, calen := s.calen, pending := s.pending })
    ∧ State.reset.pending = [] ∧ State.reset.Bounded ∧ State.reset.Distinct ∧ State.reset.NotesLinked
    ∧ State.reset.cab.CtxdServed
    ∧ State.reset.AccessLocked ∧ State.reset.NoBidInCall ∧ State.reset.NoOffersWhenClosed
    ∧ State.reset.CallShape ∧ State.reset.ShiftShape ∧ State.reset.OnBoardIsBound ∧ State.reset.ProgressBelow
    ∧ State.reset.ResidueBelow ∧ State.reset.trips.ring ∧ State.reset.Balanced ∧ State.reset.ClockInRange
    ∧ State.reset.StagedInside

/-- Every command runs to a next state and leaves the queue of commands alone; the millisecond timer comes to
the command's stamp and runs back only to 0, as main power goes or comes (log entries 1 and 16); the level of
CALEN is the one the command carries (log entry 6); and while main power is absent nothing acts but the wall
clock's tick, VBAK and power-on (log entry 16). -/
def Obligations.EveryCommandCompletes : Prop :=
  ∀ (i : Instr) (s : State), ∃ s', exec i s = .next s' ∧ s'.pending = s.pending
    ∧ (s.vdd = true → ∀ t, i.stamp = some t → s'.now = max s.now t.toNat)
    ∧ (s.vdd = false → i.stamp ≠ none → s'.now = s.now)
    ∧ (i.stamp = none → s'.now = s.now ∨ (s'.now = 0 ∧ (i = .powerOn ∨ i = .lossOfMainPower)))
    ∧ (i.stamp ≠ none → s'.vdd = s.vdd ∧ s'.vbakLatch = s.vbakLatch)
    ∧ (s.vdd = true → i.stamp ≠ none → s'.calen = i.calenLevel.getD s.calen)
    ∧ ((∀ t, i ≠ .cdRise t ∧ i ≠ .cdFall t) → s'.cd = s.cd)
    ∧ (s.vdd = false → i ≠ .powerOn → i ≠ .vbakFall → (∀ t, i ≠ .secondsTick t) → s' = s)

/-- R34, R68, R93, R160, R204, R205: a step keeps every collection within its capacity, the numbers of each
collection distinct, every JOBNOTE linked to a held job, and no frame waiting on a free CTXD. -/
def Obligations.StepKeepsCollections : Prop :=
  ∀ s s' : State, step s = .next s' →
    (s.Bounded → s'.Bounded) ∧ (s.Distinct → s'.Distinct) ∧ (s.NotesLinked → s'.NotesLinked)
      ∧ (s.cab.CtxdServed → s'.cab.CtxdServed)

/-- R71, R86, R87, R170: a step keeps the rules of a call: no BID is queued during a call; no offer is held
while the cab is BARRED, during an overt call or OFF-SHIFT; the covert flag, the grace deadline and the
pending beacon suit the emergency state. -/
def Obligations.StepKeepsCallRules : Prop :=
  ∀ s s' : State, step s = .next s' →
    (s.NoBidInCall → s'.NoBidInCall) ∧ (s.NoOffersWhenClosed → s'.NoOffersWhenClosed)
      ∧ (s.CallShape → s'.CallShape)

/-- R92, R109, R110, R137: a step keeps a trip in progress exactly while HIRED or STOPPED, a shift record
exactly outside OFF-SHIFT, and a job ON-BOARD exactly while the trip is bound to it; and but for power-on the
meter changes state only at a request, along the edges of R110. -/
def Obligations.StepKeepsMeterShape : Prop :=
  (∀ s s' : State, step s = .next s' → s.ShiftShape → s'.ShiftShape)
    ∧ (∀ s s' : State, step s = .next s' → s.ShiftShape → s.OnBoardIsBound → s'.OnBoardIsBound)
    ∧ ∀ (i : Instr) (s s' : State), exec i s = .next s' → i ≠ .powerOn → s'.meter.mode ≠ s.meter.mode →
      s.meter.mode.edge s'.meter.mode = true
        ∧ (i.request ≠ none ∨ ∃ t c b, i = .cabPortByteReceived t c b)

/-- R114, R117, R119, R126, R187: a step keeps the progress accumulator of a trip below the threshold in force,
with sound tariff banks, and the residue below K. -/
def Obligations.StepKeepsMeterNumbers : Prop :=
  ∀ s s' : State, step s = .next s' →
    (s.ProgressBelow → s'.ProgressBelow) ∧ (s.ResidueBelow → s'.ResidueBelow)

/-- R140, R141, R189, R196: a step keeps each trip record in the slot of its number, each shift's charged sum
equal to its four payment sums until it saturates, the wall clock in range, and the staged image inside the
length of its kind. -/
def Obligations.StepKeepsRecords : Prop :=
  ∀ s s' : State, step s = .next s' →
    (s.trips.ring → s'.trips.ring) ∧ (s.Balanced → s'.Balanced) ∧ (s.ClockInRange → s'.ClockInRange)
      ∧ (s.StagedInside → s'.StagedInside)

end
end

