-- ==== Sys2Proof/Laws/State.lean ====
section
/-!
SUPPORT. One lemma per field per update of the state, each true by definition.
-/

namespace Sys2Proof.Machine

@[simp] theorem State.setMs_ms (s : State) (v : Stamp) : (s.setMs v).ms = v := rfl
@[simp] theorem State.setMs_vdd (s : State) (v : Stamp) : (s.setMs v).vdd = s.vdd := rfl
@[simp] theorem State.setMs_vbakLatch (s : State) (v : Stamp) : (s.setMs v).vbakLatch = s.vbakLatch := rfl
@[simp] theorem State.setMs_cd (s : State) (v : Stamp) : (s.setMs v).cd = s.cd := rfl
@[simp] theorem State.setMs_calen (s : State) (v : Stamp) : (s.setMs v).calen = s.calen := rfl
@[simp] theorem State.setMs_air (s : State) (v : Stamp) : (s.setMs v).air = s.air := rfl
@[simp] theorem State.setMs_link (s : State) (v : Stamp) : (s.setMs v).link = s.link := rfl
@[simp] theorem State.setMs_uls (s : State) (v : Stamp) : (s.setMs v).uls = s.uls := rfl
@[simp] theorem State.setMs_zone (s : State) (v : Stamp) : (s.setMs v).zone = s.zone := rfl
@[simp] theorem State.setMs_offers (s : State) (v : Stamp) : (s.setMs v).offers = s.offers := rfl
@[simp] theorem State.setMs_jobs (s : State) (v : Stamp) : (s.setMs v).jobs = s.jobs := rfl
@[simp] theorem State.setMs_meter (s : State) (v : Stamp) : (s.setMs v).meter = s.meter := rfl
@[simp] theorem State.setMs_trips (s : State) (v : Stamp) : (s.setMs v).trips = s.trips := rfl
@[simp] theorem State.setMs_msgs (s : State) (v : Stamp) : (s.setMs v).msgs = s.msgs := rfl
@[simp] theorem State.setMs_emu (s : State) (v : Stamp) : (s.setMs v).emu = s.emu := rfl
@[simp] theorem State.setMs_dcu (s : State) (v : Stamp) : (s.setMs v).dcu = s.dcu := rfl
@[simp] theorem State.setMs_cab (s : State) (v : Stamp) : (s.setMs v).cab = s.cab := rfl
@[simp] theorem State.setMs_pending (s : State) (v : Stamp) : (s.setMs v).pending = s.pending := rfl

@[simp] theorem State.setVdd_ms (s : State) (v : Bool) : (s.setVdd v).ms = s.ms := rfl
@[simp] theorem State.setVdd_vdd (s : State) (v : Bool) : (s.setVdd v).vdd = v := rfl
@[simp] theorem State.setVdd_vbakLatch (s : State) (v : Bool) : (s.setVdd v).vbakLatch = s.vbakLatch := rfl
@[simp] theorem State.setVdd_cd (s : State) (v : Bool) : (s.setVdd v).cd = s.cd := rfl
@[simp] theorem State.setVdd_calen (s : State) (v : Bool) : (s.setVdd v).calen = s.calen := rfl
@[simp] theorem State.setVdd_air (s : State) (v : Bool) : (s.setVdd v).air = s.air := rfl
@[simp] theorem State.setVdd_link (s : State) (v : Bool) : (s.setVdd v).link = s.link := rfl
@[simp] theorem State.setVdd_uls (s : State) (v : Bool) : (s.setVdd v).uls = s.uls := rfl
@[simp] theorem State.setVdd_zone (s : State) (v : Bool) : (s.setVdd v).zone = s.zone := rfl
@[simp] theorem State.setVdd_offers (s : State) (v : Bool) : (s.setVdd v).offers = s.offers := rfl
@[simp] theorem State.setVdd_jobs (s : State) (v : Bool) : (s.setVdd v).jobs = s.jobs := rfl
@[simp] theorem State.setVdd_meter (s : State) (v : Bool) : (s.setVdd v).meter = s.meter := rfl
@[simp] theorem State.setVdd_trips (s : State) (v : Bool) : (s.setVdd v).trips = s.trips := rfl
@[simp] theorem State.setVdd_msgs (s : State) (v : Bool) : (s.setVdd v).msgs = s.msgs := rfl
@[simp] theorem State.setVdd_emu (s : State) (v : Bool) : (s.setVdd v).emu = s.emu := rfl
@[simp] theorem State.setVdd_dcu (s : State) (v : Bool) : (s.setVdd v).dcu = s.dcu := rfl
@[simp] theorem State.setVdd_cab (s : State) (v : Bool) : (s.setVdd v).cab = s.cab := rfl
@[simp] theorem State.setVdd_pending (s : State) (v : Bool) : (s.setVdd v).pending = s.pending := rfl

@[simp] theorem State.setVbakLatch_ms (s : State) (v : Bool) : (s.setVbakLatch v).ms = s.ms := rfl
@[simp] theorem State.setVbakLatch_vdd (s : State) (v : Bool) : (s.setVbakLatch v).vdd = s.vdd := rfl
@[simp] theorem State.setVbakLatch_vbakLatch (s : State) (v : Bool) : (s.setVbakLatch v).vbakLatch = v := rfl
@[simp] theorem State.setVbakLatch_cd (s : State) (v : Bool) : (s.setVbakLatch v).cd = s.cd := rfl
@[simp] theorem State.setVbakLatch_calen (s : State) (v : Bool) : (s.setVbakLatch v).calen = s.calen := rfl
@[simp] theorem State.setVbakLatch_air (s : State) (v : Bool) : (s.setVbakLatch v).air = s.air := rfl
@[simp] theorem State.setVbakLatch_link (s : State) (v : Bool) : (s.setVbakLatch v).link = s.link := rfl
@[simp] theorem State.setVbakLatch_uls (s : State) (v : Bool) : (s.setVbakLatch v).uls = s.uls := rfl
@[simp] theorem State.setVbakLatch_zone (s : State) (v : Bool) : (s.setVbakLatch v).zone = s.zone := rfl
@[simp] theorem State.setVbakLatch_offers (s : State) (v : Bool) : (s.setVbakLatch v).offers = s.offers := rfl
@[simp] theorem State.setVbakLatch_jobs (s : State) (v : Bool) : (s.setVbakLatch v).jobs = s.jobs := rfl
@[simp] theorem State.setVbakLatch_meter (s : State) (v : Bool) : (s.setVbakLatch v).meter = s.meter := rfl
@[simp] theorem State.setVbakLatch_trips (s : State) (v : Bool) : (s.setVbakLatch v).trips = s.trips := rfl
@[simp] theorem State.setVbakLatch_msgs (s : State) (v : Bool) : (s.setVbakLatch v).msgs = s.msgs := rfl
@[simp] theorem State.setVbakLatch_emu (s : State) (v : Bool) : (s.setVbakLatch v).emu = s.emu := rfl
@[simp] theorem State.setVbakLatch_dcu (s : State) (v : Bool) : (s.setVbakLatch v).dcu = s.dcu := rfl
@[simp] theorem State.setVbakLatch_cab (s : State) (v : Bool) : (s.setVbakLatch v).cab = s.cab := rfl
@[simp] theorem State.setVbakLatch_pending (s : State) (v : Bool) : (s.setVbakLatch v).pending = s.pending := rfl

@[simp] theorem State.setCd_ms (s : State) (v : Bool) : (s.setCd v).ms = s.ms := rfl
@[simp] theorem State.setCd_vdd (s : State) (v : Bool) : (s.setCd v).vdd = s.vdd := rfl
@[simp] theorem State.setCd_vbakLatch (s : State) (v : Bool) : (s.setCd v).vbakLatch = s.vbakLatch := rfl
@[simp] theorem State.setCd_cd (s : State) (v : Bool) : (s.setCd v).cd = v := rfl
@[simp] theorem State.setCd_calen (s : State) (v : Bool) : (s.setCd v).calen = s.calen := rfl
@[simp] theorem State.setCd_air (s : State) (v : Bool) : (s.setCd v).air = s.air := rfl
@[simp] theorem State.setCd_link (s : State) (v : Bool) : (s.setCd v).link = s.link := rfl
@[simp] theorem State.setCd_uls (s : State) (v : Bool) : (s.setCd v).uls = s.uls := rfl
@[simp] theorem State.setCd_zone (s : State) (v : Bool) : (s.setCd v).zone = s.zone := rfl
@[simp] theorem State.setCd_offers (s : State) (v : Bool) : (s.setCd v).offers = s.offers := rfl
@[simp] theorem State.setCd_jobs (s : State) (v : Bool) : (s.setCd v).jobs = s.jobs := rfl
@[simp] theorem State.setCd_meter (s : State) (v : Bool) : (s.setCd v).meter = s.meter := rfl
@[simp] theorem State.setCd_trips (s : State) (v : Bool) : (s.setCd v).trips = s.trips := rfl
@[simp] theorem State.setCd_msgs (s : State) (v : Bool) : (s.setCd v).msgs = s.msgs := rfl
@[simp] theorem State.setCd_emu (s : State) (v : Bool) : (s.setCd v).emu = s.emu := rfl
@[simp] theorem State.setCd_dcu (s : State) (v : Bool) : (s.setCd v).dcu = s.dcu := rfl
@[simp] theorem State.setCd_cab (s : State) (v : Bool) : (s.setCd v).cab = s.cab := rfl
@[simp] theorem State.setCd_pending (s : State) (v : Bool) : (s.setCd v).pending = s.pending := rfl

@[simp] theorem State.setCalen_ms (s : State) (v : Bool) : (s.setCalen v).ms = s.ms := rfl
@[simp] theorem State.setCalen_vdd (s : State) (v : Bool) : (s.setCalen v).vdd = s.vdd := rfl
@[simp] theorem State.setCalen_vbakLatch (s : State) (v : Bool) : (s.setCalen v).vbakLatch = s.vbakLatch := rfl
@[simp] theorem State.setCalen_cd (s : State) (v : Bool) : (s.setCalen v).cd = s.cd := rfl
@[simp] theorem State.setCalen_calen (s : State) (v : Bool) : (s.setCalen v).calen = v := rfl
@[simp] theorem State.setCalen_air (s : State) (v : Bool) : (s.setCalen v).air = s.air := rfl
@[simp] theorem State.setCalen_link (s : State) (v : Bool) : (s.setCalen v).link = s.link := rfl
@[simp] theorem State.setCalen_uls (s : State) (v : Bool) : (s.setCalen v).uls = s.uls := rfl
@[simp] theorem State.setCalen_zone (s : State) (v : Bool) : (s.setCalen v).zone = s.zone := rfl
@[simp] theorem State.setCalen_offers (s : State) (v : Bool) : (s.setCalen v).offers = s.offers := rfl
@[simp] theorem State.setCalen_jobs (s : State) (v : Bool) : (s.setCalen v).jobs = s.jobs := rfl
@[simp] theorem State.setCalen_meter (s : State) (v : Bool) : (s.setCalen v).meter = s.meter := rfl
@[simp] theorem State.setCalen_trips (s : State) (v : Bool) : (s.setCalen v).trips = s.trips := rfl
@[simp] theorem State.setCalen_msgs (s : State) (v : Bool) : (s.setCalen v).msgs = s.msgs := rfl
@[simp] theorem State.setCalen_emu (s : State) (v : Bool) : (s.setCalen v).emu = s.emu := rfl
@[simp] theorem State.setCalen_dcu (s : State) (v : Bool) : (s.setCalen v).dcu = s.dcu := rfl
@[simp] theorem State.setCalen_cab (s : State) (v : Bool) : (s.setCalen v).cab = s.cab := rfl
@[simp] theorem State.setCalen_pending (s : State) (v : Bool) : (s.setCalen v).pending = s.pending := rfl

@[simp] theorem State.setAir_ms (s : State) (v : Air) : (s.setAir v).ms = s.ms := rfl
@[simp] theorem State.setAir_vdd (s : State) (v : Air) : (s.setAir v).vdd = s.vdd := rfl
@[simp] theorem State.setAir_vbakLatch (s : State) (v : Air) : (s.setAir v).vbakLatch = s.vbakLatch := rfl
@[simp] theorem State.setAir_cd (s : State) (v : Air) : (s.setAir v).cd = s.cd := rfl
@[simp] theorem State.setAir_calen (s : State) (v : Air) : (s.setAir v).calen = s.calen := rfl
@[simp] theorem State.setAir_air (s : State) (v : Air) : (s.setAir v).air = v := rfl
@[simp] theorem State.setAir_link (s : State) (v : Air) : (s.setAir v).link = s.link := rfl
@[simp] theorem State.setAir_uls (s : State) (v : Air) : (s.setAir v).uls = s.uls := rfl
@[simp] theorem State.setAir_zone (s : State) (v : Air) : (s.setAir v).zone = s.zone := rfl
@[simp] theorem State.setAir_offers (s : State) (v : Air) : (s.setAir v).offers = s.offers := rfl
@[simp] theorem State.setAir_jobs (s : State) (v : Air) : (s.setAir v).jobs = s.jobs := rfl
@[simp] theorem State.setAir_meter (s : State) (v : Air) : (s.setAir v).meter = s.meter := rfl
@[simp] theorem State.setAir_trips (s : State) (v : Air) : (s.setAir v).trips = s.trips := rfl
@[simp] theorem State.setAir_msgs (s : State) (v : Air) : (s.setAir v).msgs = s.msgs := rfl
@[simp] theorem State.setAir_emu (s : State) (v : Air) : (s.setAir v).emu = s.emu := rfl
@[simp] theorem State.setAir_dcu (s : State) (v : Air) : (s.setAir v).dcu = s.dcu := rfl
@[simp] theorem State.setAir_cab (s : State) (v : Air) : (s.setAir v).cab = s.cab := rfl
@[simp] theorem State.setAir_pending (s : State) (v : Air) : (s.setAir v).pending = s.pending := rfl

@[simp] theorem State.setLink_ms (s : State) (v : Link) : (s.setLink v).ms = s.ms := rfl
@[simp] theorem State.setLink_vdd (s : State) (v : Link) : (s.setLink v).vdd = s.vdd := rfl
@[simp] theorem State.setLink_vbakLatch (s : State) (v : Link) : (s.setLink v).vbakLatch = s.vbakLatch := rfl
@[simp] theorem State.setLink_cd (s : State) (v : Link) : (s.setLink v).cd = s.cd := rfl
@[simp] theorem State.setLink_calen (s : State) (v : Link) : (s.setLink v).calen = s.calen := rfl
@[simp] theorem State.setLink_air (s : State) (v : Link) : (s.setLink v).air = s.air := rfl
@[simp] theorem State.setLink_link (s : State) (v : Link) : (s.setLink v).link = v := rfl
@[simp] theorem State.setLink_uls (s : State) (v : Link) : (s.setLink v).uls = s.uls := rfl
@[simp] theorem State.setLink_zone (s : State) (v : Link) : (s.setLink v).zone = s.zone := rfl
@[simp] theorem State.setLink_offers (s : State) (v : Link) : (s.setLink v).offers = s.offers := rfl
@[simp] theorem State.setLink_jobs (s : State) (v : Link) : (s.setLink v).jobs = s.jobs := rfl
@[simp] theorem State.setLink_meter (s : State) (v : Link) : (s.setLink v).meter = s.meter := rfl
@[simp] theorem State.setLink_trips (s : State) (v : Link) : (s.setLink v).trips = s.trips := rfl
@[simp] theorem State.setLink_msgs (s : State) (v : Link) : (s.setLink v).msgs = s.msgs := rfl
@[simp] theorem State.setLink_emu (s : State) (v : Link) : (s.setLink v).emu = s.emu := rfl
@[simp] theorem State.setLink_dcu (s : State) (v : Link) : (s.setLink v).dcu = s.dcu := rfl
@[simp] theorem State.setLink_cab (s : State) (v : Link) : (s.setLink v).cab = s.cab := rfl
@[simp] theorem State.setLink_pending (s : State) (v : Link) : (s.setLink v).pending = s.pending := rfl

@[simp] theorem State.setUls_ms (s : State) (v : Uls) : (s.setUls v).ms = s.ms := rfl
@[simp] theorem State.setUls_vdd (s : State) (v : Uls) : (s.setUls v).vdd = s.vdd := rfl
@[simp] theorem State.setUls_vbakLatch (s : State) (v : Uls) : (s.setUls v).vbakLatch = s.vbakLatch := rfl
@[simp] theorem State.setUls_cd (s : State) (v : Uls) : (s.setUls v).cd = s.cd := rfl
@[simp] theorem State.setUls_calen (s : State) (v : Uls) : (s.setUls v).calen = s.calen := rfl
@[simp] theorem State.setUls_air (s : State) (v : Uls) : (s.setUls v).air = s.air := rfl
@[simp] theorem State.setUls_link (s : State) (v : Uls) : (s.setUls v).link = s.link := rfl
@[simp] theorem State.setUls_uls (s : State) (v : Uls) : (s.setUls v).uls = v := rfl
@[simp] theorem State.setUls_zone (s : State) (v : Uls) : (s.setUls v).zone = s.zone := rfl
@[simp] theorem State.setUls_offers (s : State) (v : Uls) : (s.setUls v).offers = s.offers := rfl
@[simp] theorem State.setUls_jobs (s : State) (v : Uls) : (s.setUls v).jobs = s.jobs := rfl
@[simp] theorem State.setUls_meter (s : State) (v : Uls) : (s.setUls v).meter = s.meter := rfl
@[simp] theorem State.setUls_trips (s : State) (v : Uls) : (s.setUls v).trips = s.trips := rfl
@[simp] theorem State.setUls_msgs (s : State) (v : Uls) : (s.setUls v).msgs = s.msgs := rfl
@[simp] theorem State.setUls_emu (s : State) (v : Uls) : (s.setUls v).emu = s.emu := rfl
@[simp] theorem State.setUls_dcu (s : State) (v : Uls) : (s.setUls v).dcu = s.dcu := rfl
@[simp] theorem State.setUls_cab (s : State) (v : Uls) : (s.setUls v).cab = s.cab := rfl
@[simp] theorem State.setUls_pending (s : State) (v : Uls) : (s.setUls v).pending = s.pending := rfl

@[simp] theorem State.setZone_ms (s : State) (v : ZoneUnit) : (s.setZone v).ms = s.ms := rfl
@[simp] theorem State.setZone_vdd (s : State) (v : ZoneUnit) : (s.setZone v).vdd = s.vdd := rfl
@[simp] theorem State.setZone_vbakLatch (s : State) (v : ZoneUnit) : (s.setZone v).vbakLatch = s.vbakLatch := rfl
@[simp] theorem State.setZone_cd (s : State) (v : ZoneUnit) : (s.setZone v).cd = s.cd := rfl
@[simp] theorem State.setZone_calen (s : State) (v : ZoneUnit) : (s.setZone v).calen = s.calen := rfl
@[simp] theorem State.setZone_air (s : State) (v : ZoneUnit) : (s.setZone v).air = s.air := rfl
@[simp] theorem State.setZone_link (s : State) (v : ZoneUnit) : (s.setZone v).link = s.link := rfl
@[simp] theorem State.setZone_uls (s : State) (v : ZoneUnit) : (s.setZone v).uls = s.uls := rfl
@[simp] theorem State.setZone_zone (s : State) (v : ZoneUnit) : (s.setZone v).zone = v := rfl
@[simp] theorem State.setZone_offers (s : State) (v : ZoneUnit) : (s.setZone v).offers = s.offers := rfl
@[simp] theorem State.setZone_jobs (s : State) (v : ZoneUnit) : (s.setZone v).jobs = s.jobs := rfl
@[simp] theorem State.setZone_meter (s : State) (v : ZoneUnit) : (s.setZone v).meter = s.meter := rfl
@[simp] theorem State.setZone_trips (s : State) (v : ZoneUnit) : (s.setZone v).trips = s.trips := rfl
@[simp] theorem State.setZone_msgs (s : State) (v : ZoneUnit) : (s.setZone v).msgs = s.msgs := rfl
@[simp] theorem State.setZone_emu (s : State) (v : ZoneUnit) : (s.setZone v).emu = s.emu := rfl
@[simp] theorem State.setZone_dcu (s : State) (v : ZoneUnit) : (s.setZone v).dcu = s.dcu := rfl
@[simp] theorem State.setZone_cab (s : State) (v : ZoneUnit) : (s.setZone v).cab = s.cab := rfl
@[simp] theorem State.setZone_pending (s : State) (v : ZoneUnit) : (s.setZone v).pending = s.pending := rfl

@[simp] theorem State.setOffers_ms (s : State) (v : Offers) : (s.setOffers v).ms = s.ms := rfl
@[simp] theorem State.setOffers_vdd (s : State) (v : Offers) : (s.setOffers v).vdd = s.vdd := rfl
@[simp] theorem State.setOffers_vbakLatch (s : State) (v : Offers) : (s.setOffers v).vbakLatch = s.vbakLatch := rfl
@[simp] theorem State.setOffers_cd (s : State) (v : Offers) : (s.setOffers v).cd = s.cd := rfl
@[simp] theorem State.setOffers_calen (s : State) (v : Offers) : (s.setOffers v).calen = s.calen := rfl
@[simp] theorem State.setOffers_air (s : State) (v : Offers) : (s.setOffers v).air = s.air := rfl
@[simp] theorem State.setOffers_link (s : State) (v : Offers) : (s.setOffers v).link = s.link := rfl
@[simp] theorem State.setOffers_uls (s : State) (v : Offers) : (s.setOffers v).uls = s.uls := rfl
@[simp] theorem State.setOffers_zone (s : State) (v : Offers) : (s.setOffers v).zone = s.zone := rfl
@[simp] theorem State.setOffers_offers (s : State) (v : Offers) : (s.setOffers v).offers = v := rfl
@[simp] theorem State.setOffers_jobs (s : State) (v : Offers) : (s.setOffers v).jobs = s.jobs := rfl
@[simp] theorem State.setOffers_meter (s : State) (v : Offers) : (s.setOffers v).meter = s.meter := rfl
@[simp] theorem State.setOffers_trips (s : State) (v : Offers) : (s.setOffers v).trips = s.trips := rfl
@[simp] theorem State.setOffers_msgs (s : State) (v : Offers) : (s.setOffers v).msgs = s.msgs := rfl
@[simp] theorem State.setOffers_emu (s : State) (v : Offers) : (s.setOffers v).emu = s.emu := rfl
@[simp] theorem State.setOffers_dcu (s : State) (v : Offers) : (s.setOffers v).dcu = s.dcu := rfl
@[simp] theorem State.setOffers_cab (s : State) (v : Offers) : (s.setOffers v).cab = s.cab := rfl
@[simp] theorem State.setOffers_pending (s : State) (v : Offers) : (s.setOffers v).pending = s.pending := rfl

@[simp] theorem State.setJobs_ms (s : State) (v : JobBook) : (s.setJobs v).ms = s.ms := rfl
@[simp] theorem State.setJobs_vdd (s : State) (v : JobBook) : (s.setJobs v).vdd = s.vdd := rfl
@[simp] theorem State.setJobs_vbakLatch (s : State) (v : JobBook) : (s.setJobs v).vbakLatch = s.vbakLatch := rfl
@[simp] theorem State.setJobs_cd (s : State) (v : JobBook) : (s.setJobs v).cd = s.cd := rfl
@[simp] theorem State.setJobs_calen (s : State) (v : JobBook) : (s.setJobs v).calen = s.calen := rfl
@[simp] theorem State.setJobs_air (s : State) (v : JobBook) : (s.setJobs v).air = s.air := rfl
@[simp] theorem State.setJobs_link (s : State) (v : JobBook) : (s.setJobs v).link = s.link := rfl
@[simp] theorem State.setJobs_uls (s : State) (v : JobBook) : (s.setJobs v).uls = s.uls := rfl
@[simp] theorem State.setJobs_zone (s : State) (v : JobBook) : (s.setJobs v).zone = s.zone := rfl
@[simp] theorem State.setJobs_offers (s : State) (v : JobBook) : (s.setJobs v).offers = s.offers := rfl
@[simp] theorem State.setJobs_jobs (s : State) (v : JobBook) : (s.setJobs v).jobs = v := rfl
@[simp] theorem State.setJobs_meter (s : State) (v : JobBook) : (s.setJobs v).meter = s.meter := rfl
@[simp] theorem State.setJobs_trips (s : State) (v : JobBook) : (s.setJobs v).trips = s.trips := rfl
@[simp] theorem State.setJobs_msgs (s : State) (v : JobBook) : (s.setJobs v).msgs = s.msgs := rfl
@[simp] theorem State.setJobs_emu (s : State) (v : JobBook) : (s.setJobs v).emu = s.emu := rfl
@[simp] theorem State.setJobs_dcu (s : State) (v : JobBook) : (s.setJobs v).dcu = s.dcu := rfl
@[simp] theorem State.setJobs_cab (s : State) (v : JobBook) : (s.setJobs v).cab = s.cab := rfl
@[simp] theorem State.setJobs_pending (s : State) (v : JobBook) : (s.setJobs v).pending = s.pending := rfl

@[simp] theorem State.setMeter_ms (s : State) (v : Meter) : (s.setMeter v).ms = s.ms := rfl
@[simp] theorem State.setMeter_vdd (s : State) (v : Meter) : (s.setMeter v).vdd = s.vdd := rfl
@[simp] theorem State.setMeter_vbakLatch (s : State) (v : Meter) : (s.setMeter v).vbakLatch = s.vbakLatch := rfl
@[simp] theorem State.setMeter_cd (s : State) (v : Meter) : (s.setMeter v).cd = s.cd := rfl
@[simp] theorem State.setMeter_calen (s : State) (v : Meter) : (s.setMeter v).calen = s.calen := rfl
@[simp] theorem State.setMeter_air (s : State) (v : Meter) : (s.setMeter v).air = s.air := rfl
@[simp] theorem State.setMeter_link (s : State) (v : Meter) : (s.setMeter v).link = s.link := rfl
@[simp] theorem State.setMeter_uls (s : State) (v : Meter) : (s.setMeter v).uls = s.uls := rfl
@[simp] theorem State.setMeter_zone (s : State) (v : Meter) : (s.setMeter v).zone = s.zone := rfl
@[simp] theorem State.setMeter_offers (s : State) (v : Meter) : (s.setMeter v).offers = s.offers := rfl
@[simp] theorem State.setMeter_jobs (s : State) (v : Meter) : (s.setMeter v).jobs = s.jobs := rfl
@[simp] theorem State.setMeter_meter (s : State) (v : Meter) : (s.setMeter v).meter = v := rfl
@[simp] theorem State.setMeter_trips (s : State) (v : Meter) : (s.setMeter v).trips = s.trips := rfl
@[simp] theorem State.setMeter_msgs (s : State) (v : Meter) : (s.setMeter v).msgs = s.msgs := rfl
@[simp] theorem State.setMeter_emu (s : State) (v : Meter) : (s.setMeter v).emu = s.emu := rfl
@[simp] theorem State.setMeter_dcu (s : State) (v : Meter) : (s.setMeter v).dcu = s.dcu := rfl
@[simp] theorem State.setMeter_cab (s : State) (v : Meter) : (s.setMeter v).cab = s.cab := rfl
@[simp] theorem State.setMeter_pending (s : State) (v : Meter) : (s.setMeter v).pending = s.pending := rfl

@[simp] theorem State.setTrips_ms (s : State) (v : Trips) : (s.setTrips v).ms = s.ms := rfl
@[simp] theorem State.setTrips_vdd (s : State) (v : Trips) : (s.setTrips v).vdd = s.vdd := rfl
@[simp] theorem State.setTrips_vbakLatch (s : State) (v : Trips) : (s.setTrips v).vbakLatch = s.vbakLatch := rfl
@[simp] theorem State.setTrips_cd (s : State) (v : Trips) : (s.setTrips v).cd = s.cd := rfl
@[simp] theorem State.setTrips_calen (s : State) (v : Trips) : (s.setTrips v).calen = s.calen := rfl
@[simp] theorem State.setTrips_air (s : State) (v : Trips) : (s.setTrips v).air = s.air := rfl
@[simp] theorem State.setTrips_link (s : State) (v : Trips) : (s.setTrips v).link = s.link := rfl
@[simp] theorem State.setTrips_uls (s : State) (v : Trips) : (s.setTrips v).uls = s.uls := rfl
@[simp] theorem State.setTrips_zone (s : State) (v : Trips) : (s.setTrips v).zone = s.zone := rfl
@[simp] theorem State.setTrips_offers (s : State) (v : Trips) : (s.setTrips v).offers = s.offers := rfl
@[simp] theorem State.setTrips_jobs (s : State) (v : Trips) : (s.setTrips v).jobs = s.jobs := rfl
@[simp] theorem State.setTrips_meter (s : State) (v : Trips) : (s.setTrips v).meter = s.meter := rfl
@[simp] theorem State.setTrips_trips (s : State) (v : Trips) : (s.setTrips v).trips = v := rfl
@[simp] theorem State.setTrips_msgs (s : State) (v : Trips) : (s.setTrips v).msgs = s.msgs := rfl
@[simp] theorem State.setTrips_emu (s : State) (v : Trips) : (s.setTrips v).emu = s.emu := rfl
@[simp] theorem State.setTrips_dcu (s : State) (v : Trips) : (s.setTrips v).dcu = s.dcu := rfl
@[simp] theorem State.setTrips_cab (s : State) (v : Trips) : (s.setTrips v).cab = s.cab := rfl
@[simp] theorem State.setTrips_pending (s : State) (v : Trips) : (s.setTrips v).pending = s.pending := rfl

@[simp] theorem State.setMsgs_ms (s : State) (v : Messages) : (s.setMsgs v).ms = s.ms := rfl
@[simp] theorem State.setMsgs_vdd (s : State) (v : Messages) : (s.setMsgs v).vdd = s.vdd := rfl
@[simp] theorem State.setMsgs_vbakLatch (s : State) (v : Messages) : (s.setMsgs v).vbakLatch = s.vbakLatch := rfl
@[simp] theorem State.setMsgs_cd (s : State) (v : Messages) : (s.setMsgs v).cd = s.cd := rfl
@[simp] theorem State.setMsgs_calen (s : State) (v : Messages) : (s.setMsgs v).calen = s.calen := rfl
@[simp] theorem State.setMsgs_air (s : State) (v : Messages) : (s.setMsgs v).air = s.air := rfl
@[simp] theorem State.setMsgs_link (s : State) (v : Messages) : (s.setMsgs v).link = s.link := rfl
@[simp] theorem State.setMsgs_uls (s : State) (v : Messages) : (s.setMsgs v).uls = s.uls := rfl
@[simp] theorem State.setMsgs_zone (s : State) (v : Messages) : (s.setMsgs v).zone = s.zone := rfl
@[simp] theorem State.setMsgs_offers (s : State) (v : Messages) : (s.setMsgs v).offers = s.offers := rfl
@[simp] theorem State.setMsgs_jobs (s : State) (v : Messages) : (s.setMsgs v).jobs = s.jobs := rfl
@[simp] theorem State.setMsgs_meter (s : State) (v : Messages) : (s.setMsgs v).meter = s.meter := rfl
@[simp] theorem State.setMsgs_trips (s : State) (v : Messages) : (s.setMsgs v).trips = s.trips := rfl
@[simp] theorem State.setMsgs_msgs (s : State) (v : Messages) : (s.setMsgs v).msgs = v := rfl
@[simp] theorem State.setMsgs_emu (s : State) (v : Messages) : (s.setMsgs v).emu = s.emu := rfl
@[simp] theorem State.setMsgs_dcu (s : State) (v : Messages) : (s.setMsgs v).dcu = s.dcu := rfl
@[simp] theorem State.setMsgs_cab (s : State) (v : Messages) : (s.setMsgs v).cab = s.cab := rfl
@[simp] theorem State.setMsgs_pending (s : State) (v : Messages) : (s.setMsgs v).pending = s.pending := rfl

@[simp] theorem State.setEmu_ms (s : State) (v : Emergency) : (s.setEmu v).ms = s.ms := rfl
@[simp] theorem State.setEmu_vdd (s : State) (v : Emergency) : (s.setEmu v).vdd = s.vdd := rfl
@[simp] theorem State.setEmu_vbakLatch (s : State) (v : Emergency) : (s.setEmu v).vbakLatch = s.vbakLatch := rfl
@[simp] theorem State.setEmu_cd (s : State) (v : Emergency) : (s.setEmu v).cd = s.cd := rfl
@[simp] theorem State.setEmu_calen (s : State) (v : Emergency) : (s.setEmu v).calen = s.calen := rfl
@[simp] theorem State.setEmu_air (s : State) (v : Emergency) : (s.setEmu v).air = s.air := rfl
@[simp] theorem State.setEmu_link (s : State) (v : Emergency) : (s.setEmu v).link = s.link := rfl
@[simp] theorem State.setEmu_uls (s : State) (v : Emergency) : (s.setEmu v).uls = s.uls := rfl
@[simp] theorem State.setEmu_zone (s : State) (v : Emergency) : (s.setEmu v).zone = s.zone := rfl
@[simp] theorem State.setEmu_offers (s : State) (v : Emergency) : (s.setEmu v).offers = s.offers := rfl
@[simp] theorem State.setEmu_jobs (s : State) (v : Emergency) : (s.setEmu v).jobs = s.jobs := rfl
@[simp] theorem State.setEmu_meter (s : State) (v : Emergency) : (s.setEmu v).meter = s.meter := rfl
@[simp] theorem State.setEmu_trips (s : State) (v : Emergency) : (s.setEmu v).trips = s.trips := rfl
@[simp] theorem State.setEmu_msgs (s : State) (v : Emergency) : (s.setEmu v).msgs = s.msgs := rfl
@[simp] theorem State.setEmu_emu (s : State) (v : Emergency) : (s.setEmu v).emu = v := rfl
@[simp] theorem State.setEmu_dcu (s : State) (v : Emergency) : (s.setEmu v).dcu = s.dcu := rfl
@[simp] theorem State.setEmu_cab (s : State) (v : Emergency) : (s.setEmu v).cab = s.cab := rfl
@[simp] theorem State.setEmu_pending (s : State) (v : Emergency) : (s.setEmu v).pending = s.pending := rfl

@[simp] theorem State.setDcu_ms (s : State) (v : Dcu) : (s.setDcu v).ms = s.ms := rfl
@[simp] theorem State.setDcu_vdd (s : State) (v : Dcu) : (s.setDcu v).vdd = s.vdd := rfl
@[simp] theorem State.setDcu_vbakLatch (s : State) (v : Dcu) : (s.setDcu v).vbakLatch = s.vbakLatch := rfl
@[simp] theorem State.setDcu_cd (s : State) (v : Dcu) : (s.setDcu v).cd = s.cd := rfl
@[simp] theorem State.setDcu_calen (s : State) (v : Dcu) : (s.setDcu v).calen = s.calen := rfl
@[simp] theorem State.setDcu_air (s : State) (v : Dcu) : (s.setDcu v).air = s.air := rfl
@[simp] theorem State.setDcu_link (s : State) (v : Dcu) : (s.setDcu v).link = s.link := rfl
@[simp] theorem State.setDcu_uls (s : State) (v : Dcu) : (s.setDcu v).uls = s.uls := rfl
@[simp] theorem State.setDcu_zone (s : State) (v : Dcu) : (s.setDcu v).zone = s.zone := rfl
@[simp] theorem State.setDcu_offers (s : State) (v : Dcu) : (s.setDcu v).offers = s.offers := rfl
@[simp] theorem State.setDcu_jobs (s : State) (v : Dcu) : (s.setDcu v).jobs = s.jobs := rfl
@[simp] theorem State.setDcu_meter (s : State) (v : Dcu) : (s.setDcu v).meter = s.meter := rfl
@[simp] theorem State.setDcu_trips (s : State) (v : Dcu) : (s.setDcu v).trips = s.trips := rfl
@[simp] theorem State.setDcu_msgs (s : State) (v : Dcu) : (s.setDcu v).msgs = s.msgs := rfl
@[simp] theorem State.setDcu_emu (s : State) (v : Dcu) : (s.setDcu v).emu = s.emu := rfl
@[simp] theorem State.setDcu_dcu (s : State) (v : Dcu) : (s.setDcu v).dcu = v := rfl
@[simp] theorem State.setDcu_cab (s : State) (v : Dcu) : (s.setDcu v).cab = s.cab := rfl
@[simp] theorem State.setDcu_pending (s : State) (v : Dcu) : (s.setDcu v).pending = s.pending := rfl

@[simp] theorem State.setCab_ms (s : State) (v : CabPort) : (s.setCab v).ms = s.ms := rfl
@[simp] theorem State.setCab_vdd (s : State) (v : CabPort) : (s.setCab v).vdd = s.vdd := rfl
@[simp] theorem State.setCab_vbakLatch (s : State) (v : CabPort) : (s.setCab v).vbakLatch = s.vbakLatch := rfl
@[simp] theorem State.setCab_cd (s : State) (v : CabPort) : (s.setCab v).cd = s.cd := rfl
@[simp] theorem State.setCab_calen (s : State) (v : CabPort) : (s.setCab v).calen = s.calen := rfl
@[simp] theorem State.setCab_air (s : State) (v : CabPort) : (s.setCab v).air = s.air := rfl
@[simp] theorem State.setCab_link (s : State) (v : CabPort) : (s.setCab v).link = s.link := rfl
@[simp] theorem State.setCab_uls (s : State) (v : CabPort) : (s.setCab v).uls = s.uls := rfl
@[simp] theorem State.setCab_zone (s : State) (v : CabPort) : (s.setCab v).zone = s.zone := rfl
@[simp] theorem State.setCab_offers (s : State) (v : CabPort) : (s.setCab v).offers = s.offers := rfl
@[simp] theorem State.setCab_jobs (s : State) (v : CabPort) : (s.setCab v).jobs = s.jobs := rfl
@[simp] theorem State.setCab_meter (s : State) (v : CabPort) : (s.setCab v).meter = s.meter := rfl
@[simp] theorem State.setCab_trips (s : State) (v : CabPort) : (s.setCab v).trips = s.trips := rfl
@[simp] theorem State.setCab_msgs (s : State) (v : CabPort) : (s.setCab v).msgs = s.msgs := rfl
@[simp] theorem State.setCab_emu (s : State) (v : CabPort) : (s.setCab v).emu = s.emu := rfl
@[simp] theorem State.setCab_dcu (s : State) (v : CabPort) : (s.setCab v).dcu = s.dcu := rfl
@[simp] theorem State.setCab_cab (s : State) (v : CabPort) : (s.setCab v).cab = v := rfl
@[simp] theorem State.setCab_pending (s : State) (v : CabPort) : (s.setCab v).pending = s.pending := rfl

@[simp] theorem State.setPending_ms (s : State) (v : List Instr) : (s.setPending v).ms = s.ms := rfl
@[simp] theorem State.setPending_vdd (s : State) (v : List Instr) : (s.setPending v).vdd = s.vdd := rfl
@[simp] theorem State.setPending_vbakLatch (s : State) (v : List Instr) : (s.setPending v).vbakLatch = s.vbakLatch := rfl
@[simp] theorem State.setPending_cd (s : State) (v : List Instr) : (s.setPending v).cd = s.cd := rfl
@[simp] theorem State.setPending_calen (s : State) (v : List Instr) : (s.setPending v).calen = s.calen := rfl
@[simp] theorem State.setPending_air (s : State) (v : List Instr) : (s.setPending v).air = s.air := rfl
@[simp] theorem State.setPending_link (s : State) (v : List Instr) : (s.setPending v).link = s.link := rfl
@[simp] theorem State.setPending_uls (s : State) (v : List Instr) : (s.setPending v).uls = s.uls := rfl
@[simp] theorem State.setPending_zone (s : State) (v : List Instr) : (s.setPending v).zone = s.zone := rfl
@[simp] theorem State.setPending_offers (s : State) (v : List Instr) : (s.setPending v).offers = s.offers := rfl
@[simp] theorem State.setPending_jobs (s : State) (v : List Instr) : (s.setPending v).jobs = s.jobs := rfl
@[simp] theorem State.setPending_meter (s : State) (v : List Instr) : (s.setPending v).meter = s.meter := rfl
@[simp] theorem State.setPending_trips (s : State) (v : List Instr) : (s.setPending v).trips = s.trips := rfl
@[simp] theorem State.setPending_msgs (s : State) (v : List Instr) : (s.setPending v).msgs = s.msgs := rfl
@[simp] theorem State.setPending_emu (s : State) (v : List Instr) : (s.setPending v).emu = s.emu := rfl
@[simp] theorem State.setPending_dcu (s : State) (v : List Instr) : (s.setPending v).dcu = s.dcu := rfl
@[simp] theorem State.setPending_cab (s : State) (v : List Instr) : (s.setPending v).cab = s.cab := rfl
@[simp] theorem State.setPending_pending (s : State) (v : List Instr) : (s.setPending v).pending = v := rfl

@[simp] theorem State.setMs_self (s : State) : s.setMs s.ms = s := rfl
@[simp] theorem State.setMs_setMs (s : State) (v w : Stamp) :
    (s.setMs v).setMs w = s.setMs w := rfl
@[simp] theorem State.setVdd_self (s : State) : s.setVdd s.vdd = s := rfl
@[simp] theorem State.setVdd_setVdd (s : State) (v w : Bool) :
    (s.setVdd v).setVdd w = s.setVdd w := rfl
@[simp] theorem State.setVbakLatch_self (s : State) : s.setVbakLatch s.vbakLatch = s := rfl
@[simp] theorem State.setVbakLatch_setVbakLatch (s : State) (v w : Bool) :
    (s.setVbakLatch v).setVbakLatch w = s.setVbakLatch w := rfl
@[simp] theorem State.setCd_self (s : State) : s.setCd s.cd = s := rfl
@[simp] theorem State.setCd_setCd (s : State) (v w : Bool) :
    (s.setCd v).setCd w = s.setCd w := rfl
@[simp] theorem State.setCalen_self (s : State) : s.setCalen s.calen = s := rfl
@[simp] theorem State.setCalen_setCalen (s : State) (v w : Bool) :
    (s.setCalen v).setCalen w = s.setCalen w := rfl
@[simp] theorem State.setAir_self (s : State) : s.setAir s.air = s := rfl
@[simp] theorem State.setAir_setAir (s : State) (v w : Air) :
    (s.setAir v).setAir w = s.setAir w := rfl
@[simp] theorem State.setLink_self (s : State) : s.setLink s.link = s := rfl
@[simp] theorem State.setLink_setLink (s : State) (v w : Link) :
    (s.setLink v).setLink w = s.setLink w := rfl
@[simp] theorem State.setUls_self (s : State) : s.setUls s.uls = s := rfl
@[simp] theorem State.setUls_setUls (s : State) (v w : Uls) :
    (s.setUls v).setUls w = s.setUls w := rfl
@[simp] theorem State.setZone_self (s : State) : s.setZone s.zone = s := rfl
@[simp] theorem State.setZone_setZone (s : State) (v w : ZoneUnit) :
    (s.setZone v).setZone w = s.setZone w := rfl
@[simp] theorem State.setOffers_self (s : State) : s.setOffers s.offers = s := rfl
@[simp] theorem State.setOffers_setOffers (s : State) (v w : Offers) :
    (s.setOffers v).setOffers w = s.setOffers w := rfl
@[simp] theorem State.setJobs_self (s : State) : s.setJobs s.jobs = s := rfl
@[simp] theorem State.setJobs_setJobs (s : State) (v w : JobBook) :
    (s.setJobs v).setJobs w = s.setJobs w := rfl
@[simp] theorem State.setMeter_self (s : State) : s.setMeter s.meter = s := rfl
@[simp] theorem State.setMeter_setMeter (s : State) (v w : Meter) :
    (s.setMeter v).setMeter w = s.setMeter w := rfl
@[simp] theorem State.setTrips_self (s : State) : s.setTrips s.trips = s := rfl
@[simp] theorem State.setTrips_setTrips (s : State) (v w : Trips) :
    (s.setTrips v).setTrips w = s.setTrips w := rfl
@[simp] theorem State.setMsgs_self (s : State) : s.setMsgs s.msgs = s := rfl
@[simp] theorem State.setMsgs_setMsgs (s : State) (v w : Messages) :
    (s.setMsgs v).setMsgs w = s.setMsgs w := rfl
@[simp] theorem State.setEmu_self (s : State) : s.setEmu s.emu = s := rfl
@[simp] theorem State.setEmu_setEmu (s : State) (v w : Emergency) :
    (s.setEmu v).setEmu w = s.setEmu w := rfl
@[simp] theorem State.setDcu_self (s : State) : s.setDcu s.dcu = s := rfl
@[simp] theorem State.setDcu_setDcu (s : State) (v w : Dcu) :
    (s.setDcu v).setDcu w = s.setDcu w := rfl
@[simp] theorem State.setCab_self (s : State) : s.setCab s.cab = s := rfl
@[simp] theorem State.setCab_setCab (s : State) (v w : CabPort) :
    (s.setCab v).setCab w = s.setCab w := rfl
@[simp] theorem State.setPending_self (s : State) : s.setPending s.pending = s := rfl
@[simp] theorem State.setPending_setPending (s : State) (v w : List Instr) :
    (s.setPending v).setPending w = s.setPending w := rfl

/-! ## The millisecond timer -/

@[simp] theorem State.advanceTo_vdd (s : State) (t : Stamp) : (s.advanceTo t).vdd = s.vdd := by
  unfold State.advanceTo
  split <;> rfl
@[simp] theorem State.advanceTo_vbakLatch (s : State) (t : Stamp) : (s.advanceTo t).vbakLatch = s.vbakLatch := by
  unfold State.advanceTo
  split <;> rfl
@[simp] theorem State.advanceTo_cd (s : State) (t : Stamp) : (s.advanceTo t).cd = s.cd := by
  unfold State.advanceTo
  split <;> rfl
@[simp] theorem State.advanceTo_calen (s : State) (t : Stamp) : (s.advanceTo t).calen = s.calen := by
  unfold State.advanceTo
  split <;> rfl
@[simp] theorem State.advanceTo_air (s : State) (t : Stamp) : (s.advanceTo t).air = s.air := by
  unfold State.advanceTo
  split <;> rfl
@[simp] theorem State.advanceTo_link (s : State) (t : Stamp) : (s.advanceTo t).link = s.link := by
  unfold State.advanceTo
  split <;> rfl
@[simp] theorem State.advanceTo_uls (s : State) (t : Stamp) : (s.advanceTo t).uls = s.uls := by
  unfold State.advanceTo
  split <;> rfl
@[simp] theorem State.advanceTo_zone (s : State) (t : Stamp) : (s.advanceTo t).zone = s.zone := by
  unfold State.advanceTo
  split <;> rfl
@[simp] theorem State.advanceTo_offers (s : State) (t : Stamp) : (s.advanceTo t).offers = s.offers := by
  unfold State.advanceTo
  split <;> rfl
@[simp] theorem State.advanceTo_jobs (s : State) (t : Stamp) : (s.advanceTo t).jobs = s.jobs := by
  unfold State.advanceTo
  split <;> rfl
@[simp] theorem State.advanceTo_meter (s : State) (t : Stamp) : (s.advanceTo t).meter = s.meter := by
  unfold State.advanceTo
  split <;> rfl
@[simp] theorem State.advanceTo_trips (s : State) (t : Stamp) : (s.advanceTo t).trips = s.trips := by
  unfold State.advanceTo
  split <;> rfl
@[simp] theorem State.advanceTo_msgs (s : State) (t : Stamp) : (s.advanceTo t).msgs = s.msgs := by
  unfold State.advanceTo
  split <;> rfl
@[simp] theorem State.advanceTo_emu (s : State) (t : Stamp) : (s.advanceTo t).emu = s.emu := by
  unfold State.advanceTo
  split <;> rfl
@[simp] theorem State.advanceTo_dcu (s : State) (t : Stamp) : (s.advanceTo t).dcu = s.dcu := by
  unfold State.advanceTo
  split <;> rfl
@[simp] theorem State.advanceTo_cab (s : State) (t : Stamp) : (s.advanceTo t).cab = s.cab := by
  unfold State.advanceTo
  split <;> rfl
@[simp] theorem State.advanceTo_pending (s : State) (t : Stamp) : (s.advanceTo t).pending = s.pending := by
  unfold State.advanceTo
  split <;> rfl

/-- The timer comes to the later of its reading and the command's stamp (log entry 1). -/
theorem State.advanceTo_now (s : State) (t : Stamp) : (s.advanceTo t).now = max s.now t.toNat := by
  unfold State.advanceTo
  split
  · rename_i h
    simp only [State.now, State.setMs]
    have : s.ms.toNat < t.toNat := h
    omega
  · rename_i h
    simp only [State.now]
    have : ¬ s.ms.toNat < t.toNat := h
    omega

end Sys2Proof.Machine
end

