-- ==== Sys2Proof/Laws/Cab.lean ====
section
/-!
SUPPORT. What the operations of the cab port leave alone: a notice and a response are `cabWork` (Safety).
Events, requests and responses said once.
-/

namespace Sys2Proof.Machine

/-! ## Frames on CTXD (R204, R205) -/

/-- A RESPONSE of up to 61 result bytes leaves in one frame. -/
@[simp] theorem OutFrame.rest_of_short {kind code mark : Byte} {result : List Byte}
    (h : result.length ≤ Config.resultMax) : (OutFrame.response kind code mark result).rest = [] := by
  simp [OutFrame.rest, Nat.not_lt.mpr h]

@[simp] theorem OutFrame.rest_of_notice (kind : NoticeKind) (cause : Byte) (summary : List Byte) :
    (OutFrame.notice kind cause summary).rest = [] := rfl

/-- A frame that begins to leave: CTXD is busy, and the rest of it waits before the other frames. -/
theorem CabPort.begin_spec (c : CabPort) (f : OutFrame) :
    (∃ bytes, (c.begin f).sending = some bytes) ∧ (c.begin f).waiting = f.rest ++ c.waiting := by
  cases f <;> exact ⟨⟨_, rfl⟩, rfl⟩

/-- Once the first waiting frame has been let go, none waits on a free CTXD (R204). -/
theorem CabPort.pump_served (c : CabPort) : c.pump.CtxdServed := by
  intro h
  unfold CabPort.pump at h ⊢
  split at h
  · obtain ⟨bytes, hb⟩ := (CabPort.begin_spec { c with waiting := _ } _).1
    rw [hb] at h
    cases h
  · rename_i hn
    cases hw : c.waiting with
    | nil => rfl
    | cons f rest => exact (hn f rest h hw).elim

/-- What of a RESPONSE is still to leave is a RESPONSE again, so at most as many wait as before. -/
theorem OutFrame.rest_responses (f : OutFrame) :
    f.rest.countP OutFrame.isResponse ≤ [f].countP OutFrame.isResponse := by
  cases f with
  | response kind code mark result =>
    by_cases h : Config.resultMax < result.length <;> simp [OutFrame.rest, h, OutFrame.isResponse]
  | notice => exact Nat.zero_le _

theorem CabPort.join_served (c : CabPort) (f : OutFrame) : (c.join f).CtxdServed := CabPort.pump_served _

/-- Letting a frame go leaves no more responses waiting (R205). -/
theorem CabPort.pump_responses (c : CabPort) : c.pump.responses ≤ c.responses := by
  unfold CabPort.pump
  split
  · rename_i f rest _ hw
    have h := OutFrame.rest_responses f
    simp only [CabPort.responses, (CabPort.begin_spec { c with waiting := rest } f).2, hw, List.countP_append,
      List.countP_cons, List.countP_nil] at h ⊢
    omega
  · exact Nat.le_refl _

/-! ## Events -/

theorem State.event_of_vdd {s : State} (h : s.vdd = true) (t : Stamp) (act : State → State) :
    s.event t act = act (s.advanceTo t) := by
  simp [State.event, h]

theorem State.event_without_vdd {s : State} (h : s.vdd = false) (t : Stamp) (act : State → State) :
    s.event t act = s := by
  simp [State.event, h]

/-- A request that the part takes is answered by its owner. -/
theorem State.request_of_takes {s : State} (h : s.takes) (t : Stamp) (kind : Byte)
    (act : State → Answer) :
    s.request t kind act =
      ((act (s.advanceTo t).toHunt).state).respond kind (act (s.advanceTo t).toHunt).code
        (act (s.advanceTo t).toHunt).fields := by
  have hr : ¬ Config.responsesMax ≤ (s.advanceTo t).toHunt.cab.responses := by
    have : (s.advanceTo t).toHunt.cab.responses = s.cab.responses := by
      unfold State.advanceTo
      split <;> rfl
    rw [this]
    exact Nat.not_le.mpr h.2
  simp only [State.request, State.event_of_vdd h.1, State.answer, if_neg hr]

/-- A request whose answer leaves the state as it is, is a reply. -/
theorem State.respond_toHunt (s : State) (kind : Byte) (code : RespCode) (fields : List (List Byte)) :
    s.toHunt.respond kind code fields = s.replied kind code fields := rfl

/-! ## Notices and responses -/

theorem State.raise_cabWork (s : State) (kind : NoticeKind) (cause : Nat) (summary : List Byte) :
    s.cabWork (s.raise kind cause summary) := by
  unfold State.raise
  split <;> rfl

theorem State.respond_cabWork (s : State) (kind : Byte) (code : RespCode) (fields : List (List Byte)) :
    s.cabWork (s.respond kind code fields) := rfl

theorem State.cabWork.trans {s s' s'' : State} (h : s.cabWork s') (h' : s'.cabWork s'') :
    s.cabWork s'' := by
  unfold State.cabWork at *
  rw [h', h]

@[simp] theorem State.raise_ms (s : State) (kind : NoticeKind) (cause : Nat)
    (summary : List Byte) : (s.raise kind cause summary).ms = s.ms := by
  rw [s.raise_cabWork]
@[simp] theorem State.raise_vdd (s : State) (kind : NoticeKind) (cause : Nat)
    (summary : List Byte) : (s.raise kind cause summary).vdd = s.vdd := by
  rw [s.raise_cabWork]
@[simp] theorem State.raise_vbakLatch (s : State) (kind : NoticeKind) (cause : Nat)
    (summary : List Byte) : (s.raise kind cause summary).vbakLatch = s.vbakLatch := by
  rw [s.raise_cabWork]
@[simp] theorem State.raise_cd (s : State) (kind : NoticeKind) (cause : Nat)
    (summary : List Byte) : (s.raise kind cause summary).cd = s.cd := by
  rw [s.raise_cabWork]
@[simp] theorem State.raise_calen (s : State) (kind : NoticeKind) (cause : Nat)
    (summary : List Byte) : (s.raise kind cause summary).calen = s.calen := by
  rw [s.raise_cabWork]
@[simp] theorem State.raise_air (s : State) (kind : NoticeKind) (cause : Nat)
    (summary : List Byte) : (s.raise kind cause summary).air = s.air := by
  rw [s.raise_cabWork]
@[simp] theorem State.raise_link (s : State) (kind : NoticeKind) (cause : Nat)
    (summary : List Byte) : (s.raise kind cause summary).link = s.link := by
  rw [s.raise_cabWork]
@[simp] theorem State.raise_uls (s : State) (kind : NoticeKind) (cause : Nat)
    (summary : List Byte) : (s.raise kind cause summary).uls = s.uls := by
  rw [s.raise_cabWork]
@[simp] theorem State.raise_zone (s : State) (kind : NoticeKind) (cause : Nat)
    (summary : List Byte) : (s.raise kind cause summary).zone = s.zone := by
  rw [s.raise_cabWork]
@[simp] theorem State.raise_offers (s : State) (kind : NoticeKind) (cause : Nat)
    (summary : List Byte) : (s.raise kind cause summary).offers = s.offers := by
  rw [s.raise_cabWork]
@[simp] theorem State.raise_jobs (s : State) (kind : NoticeKind) (cause : Nat)
    (summary : List Byte) : (s.raise kind cause summary).jobs = s.jobs := by
  rw [s.raise_cabWork]
@[simp] theorem State.raise_meter (s : State) (kind : NoticeKind) (cause : Nat)
    (summary : List Byte) : (s.raise kind cause summary).meter = s.meter := by
  rw [s.raise_cabWork]
@[simp] theorem State.raise_trips (s : State) (kind : NoticeKind) (cause : Nat)
    (summary : List Byte) : (s.raise kind cause summary).trips = s.trips := by
  rw [s.raise_cabWork]
@[simp] theorem State.raise_msgs (s : State) (kind : NoticeKind) (cause : Nat)
    (summary : List Byte) : (s.raise kind cause summary).msgs = s.msgs := by
  rw [s.raise_cabWork]
@[simp] theorem State.raise_emu (s : State) (kind : NoticeKind) (cause : Nat)
    (summary : List Byte) : (s.raise kind cause summary).emu = s.emu := by
  rw [s.raise_cabWork]
@[simp] theorem State.raise_dcu (s : State) (kind : NoticeKind) (cause : Nat)
    (summary : List Byte) : (s.raise kind cause summary).dcu = s.dcu := by
  rw [s.raise_cabWork]
@[simp] theorem State.raise_pending (s : State) (kind : NoticeKind) (cause : Nat)
    (summary : List Byte) : (s.raise kind cause summary).pending = s.pending := by
  rw [s.raise_cabWork]

@[simp] theorem State.respond_ms (s : State) (kind : Byte) (code : RespCode)
    (fields : List (List Byte)) : (s.respond kind code fields).ms = s.ms := rfl
@[simp] theorem State.respond_vdd (s : State) (kind : Byte) (code : RespCode)
    (fields : List (List Byte)) : (s.respond kind code fields).vdd = s.vdd := rfl
@[simp] theorem State.respond_vbakLatch (s : State) (kind : Byte) (code : RespCode)
    (fields : List (List Byte)) : (s.respond kind code fields).vbakLatch = s.vbakLatch := rfl
@[simp] theorem State.respond_cd (s : State) (kind : Byte) (code : RespCode)
    (fields : List (List Byte)) : (s.respond kind code fields).cd = s.cd := rfl
@[simp] theorem State.respond_calen (s : State) (kind : Byte) (code : RespCode)
    (fields : List (List Byte)) : (s.respond kind code fields).calen = s.calen := rfl
@[simp] theorem State.respond_air (s : State) (kind : Byte) (code : RespCode)
    (fields : List (List Byte)) : (s.respond kind code fields).air = s.air := rfl
@[simp] theorem State.respond_link (s : State) (kind : Byte) (code : RespCode)
    (fields : List (List Byte)) : (s.respond kind code fields).link = s.link := rfl
@[simp] theorem State.respond_uls (s : State) (kind : Byte) (code : RespCode)
    (fields : List (List Byte)) : (s.respond kind code fields).uls = s.uls := rfl
@[simp] theorem State.respond_zone (s : State) (kind : Byte) (code : RespCode)
    (fields : List (List Byte)) : (s.respond kind code fields).zone = s.zone := rfl
@[simp] theorem State.respond_offers (s : State) (kind : Byte) (code : RespCode)
    (fields : List (List Byte)) : (s.respond kind code fields).offers = s.offers := rfl
@[simp] theorem State.respond_jobs (s : State) (kind : Byte) (code : RespCode)
    (fields : List (List Byte)) : (s.respond kind code fields).jobs = s.jobs := rfl
@[simp] theorem State.respond_meter (s : State) (kind : Byte) (code : RespCode)
    (fields : List (List Byte)) : (s.respond kind code fields).meter = s.meter := rfl
@[simp] theorem State.respond_trips (s : State) (kind : Byte) (code : RespCode)
    (fields : List (List Byte)) : (s.respond kind code fields).trips = s.trips := rfl
@[simp] theorem State.respond_msgs (s : State) (kind : Byte) (code : RespCode)
    (fields : List (List Byte)) : (s.respond kind code fields).msgs = s.msgs := rfl
@[simp] theorem State.respond_emu (s : State) (kind : Byte) (code : RespCode)
    (fields : List (List Byte)) : (s.respond kind code fields).emu = s.emu := rfl
@[simp] theorem State.respond_dcu (s : State) (kind : Byte) (code : RespCode)
    (fields : List (List Byte)) : (s.respond kind code fields).dcu = s.dcu := rfl
@[simp] theorem State.respond_pending (s : State) (kind : Byte) (code : RespCode)
    (fields : List (List Byte)) : (s.respond kind code fields).pending = s.pending := rfl

@[simp] theorem State.offerNotice_ms (s : State) (cause : OfferCause) (o : OfferEntry) (after : Option OfferState) :
    (s.offerNotice cause o after).ms = s.ms := State.raise_ms _ _ _ _
@[simp] theorem State.offerNotice_vdd (s : State) (cause : OfferCause) (o : OfferEntry) (after : Option OfferState) :
    (s.offerNotice cause o after).vdd = s.vdd := State.raise_vdd _ _ _ _
@[simp] theorem State.offerNotice_vbakLatch (s : State) (cause : OfferCause) (o : OfferEntry) (after : Option OfferState) :
    (s.offerNotice cause o after).vbakLatch = s.vbakLatch := State.raise_vbakLatch _ _ _ _
@[simp] theorem State.offerNotice_cd (s : State) (cause : OfferCause) (o : OfferEntry) (after : Option OfferState) :
    (s.offerNotice cause o after).cd = s.cd := State.raise_cd _ _ _ _
@[simp] theorem State.offerNotice_calen (s : State) (cause : OfferCause) (o : OfferEntry) (after : Option OfferState) :
    (s.offerNotice cause o after).calen = s.calen := State.raise_calen _ _ _ _
@[simp] theorem State.offerNotice_air (s : State) (cause : OfferCause) (o : OfferEntry) (after : Option OfferState) :
    (s.offerNotice cause o after).air = s.air := State.raise_air _ _ _ _
@[simp] theorem State.offerNotice_link (s : State) (cause : OfferCause) (o : OfferEntry) (after : Option OfferState) :
    (s.offerNotice cause o after).link = s.link := State.raise_link _ _ _ _
@[simp] theorem State.offerNotice_uls (s : State) (cause : OfferCause) (o : OfferEntry) (after : Option OfferState) :
    (s.offerNotice cause o after).uls = s.uls := State.raise_uls _ _ _ _
@[simp] theorem State.offerNotice_zone (s : State) (cause : OfferCause) (o : OfferEntry) (after : Option OfferState) :
    (s.offerNotice cause o after).zone = s.zone := State.raise_zone _ _ _ _
@[simp] theorem State.offerNotice_offers (s : State) (cause : OfferCause) (o : OfferEntry) (after : Option OfferState) :
    (s.offerNotice cause o after).offers = s.offers := State.raise_offers _ _ _ _
@[simp] theorem State.offerNotice_jobs (s : State) (cause : OfferCause) (o : OfferEntry) (after : Option OfferState) :
    (s.offerNotice cause o after).jobs = s.jobs := State.raise_jobs _ _ _ _
@[simp] theorem State.offerNotice_meter (s : State) (cause : OfferCause) (o : OfferEntry) (after : Option OfferState) :
    (s.offerNotice cause o after).meter = s.meter := State.raise_meter _ _ _ _
@[simp] theorem State.offerNotice_trips (s : State) (cause : OfferCause) (o : OfferEntry) (after : Option OfferState) :
    (s.offerNotice cause o after).trips = s.trips := State.raise_trips _ _ _ _
@[simp] theorem State.offerNotice_msgs (s : State) (cause : OfferCause) (o : OfferEntry) (after : Option OfferState) :
    (s.offerNotice cause o after).msgs = s.msgs := State.raise_msgs _ _ _ _
@[simp] theorem State.offerNotice_emu (s : State) (cause : OfferCause) (o : OfferEntry) (after : Option OfferState) :
    (s.offerNotice cause o after).emu = s.emu := State.raise_emu _ _ _ _
@[simp] theorem State.offerNotice_dcu (s : State) (cause : OfferCause) (o : OfferEntry) (after : Option OfferState) :
    (s.offerNotice cause o after).dcu = s.dcu := State.raise_dcu _ _ _ _
@[simp] theorem State.offerNotice_pending (s : State) (cause : OfferCause) (o : OfferEntry) (after : Option OfferState) :
    (s.offerNotice cause o after).pending = s.pending := State.raise_pending _ _ _ _

@[simp] theorem State.jobNotice_ms (s : State) (cause : JobCause) (j : Job) (place : Option Bool) :
    (s.jobNotice cause j place).ms = s.ms := State.raise_ms _ _ _ _
@[simp] theorem State.jobNotice_vdd (s : State) (cause : JobCause) (j : Job) (place : Option Bool) :
    (s.jobNotice cause j place).vdd = s.vdd := State.raise_vdd _ _ _ _
@[simp] theorem State.jobNotice_vbakLatch (s : State) (cause : JobCause) (j : Job) (place : Option Bool) :
    (s.jobNotice cause j place).vbakLatch = s.vbakLatch := State.raise_vbakLatch _ _ _ _
@[simp] theorem State.jobNotice_cd (s : State) (cause : JobCause) (j : Job) (place : Option Bool) :
    (s.jobNotice cause j place).cd = s.cd := State.raise_cd _ _ _ _
@[simp] theorem State.jobNotice_calen (s : State) (cause : JobCause) (j : Job) (place : Option Bool) :
    (s.jobNotice cause j place).calen = s.calen := State.raise_calen _ _ _ _
@[simp] theorem State.jobNotice_air (s : State) (cause : JobCause) (j : Job) (place : Option Bool) :
    (s.jobNotice cause j place).air = s.air := State.raise_air _ _ _ _
@[simp] theorem State.jobNotice_link (s : State) (cause : JobCause) (j : Job) (place : Option Bool) :
    (s.jobNotice cause j place).link = s.link := State.raise_link _ _ _ _
@[simp] theorem State.jobNotice_uls (s : State) (cause : JobCause) (j : Job) (place : Option Bool) :
    (s.jobNotice cause j place).uls = s.uls := State.raise_uls _ _ _ _
@[simp] theorem State.jobNotice_zone (s : State) (cause : JobCause) (j : Job) (place : Option Bool) :
    (s.jobNotice cause j place).zone = s.zone := State.raise_zone _ _ _ _
@[simp] theorem State.jobNotice_offers (s : State) (cause : JobCause) (j : Job) (place : Option Bool) :
    (s.jobNotice cause j place).offers = s.offers := State.raise_offers _ _ _ _
@[simp] theorem State.jobNotice_jobs (s : State) (cause : JobCause) (j : Job) (place : Option Bool) :
    (s.jobNotice cause j place).jobs = s.jobs := State.raise_jobs _ _ _ _
@[simp] theorem State.jobNotice_meter (s : State) (cause : JobCause) (j : Job) (place : Option Bool) :
    (s.jobNotice cause j place).meter = s.meter := State.raise_meter _ _ _ _
@[simp] theorem State.jobNotice_trips (s : State) (cause : JobCause) (j : Job) (place : Option Bool) :
    (s.jobNotice cause j place).trips = s.trips := State.raise_trips _ _ _ _
@[simp] theorem State.jobNotice_msgs (s : State) (cause : JobCause) (j : Job) (place : Option Bool) :
    (s.jobNotice cause j place).msgs = s.msgs := State.raise_msgs _ _ _ _
@[simp] theorem State.jobNotice_emu (s : State) (cause : JobCause) (j : Job) (place : Option Bool) :
    (s.jobNotice cause j place).emu = s.emu := State.raise_emu _ _ _ _
@[simp] theorem State.jobNotice_dcu (s : State) (cause : JobCause) (j : Job) (place : Option Bool) :
    (s.jobNotice cause j place).dcu = s.dcu := State.raise_dcu _ _ _ _
@[simp] theorem State.jobNotice_pending (s : State) (cause : JobCause) (j : Job) (place : Option Bool) :
    (s.jobNotice cause j place).pending = s.pending := State.raise_pending _ _ _ _

@[simp] theorem State.meterNotice_ms (s : State) (cause : MeterCause) (p : Trip) :
    (s.meterNotice cause p).ms = s.ms := State.raise_ms _ _ _ _
@[simp] theorem State.meterNotice_vdd (s : State) (cause : MeterCause) (p : Trip) :
    (s.meterNotice cause p).vdd = s.vdd := State.raise_vdd _ _ _ _
@[simp] theorem State.meterNotice_vbakLatch (s : State) (cause : MeterCause) (p : Trip) :
    (s.meterNotice cause p).vbakLatch = s.vbakLatch := State.raise_vbakLatch _ _ _ _
@[simp] theorem State.meterNotice_cd (s : State) (cause : MeterCause) (p : Trip) :
    (s.meterNotice cause p).cd = s.cd := State.raise_cd _ _ _ _
@[simp] theorem State.meterNotice_calen (s : State) (cause : MeterCause) (p : Trip) :
    (s.meterNotice cause p).calen = s.calen := State.raise_calen _ _ _ _
@[simp] theorem State.meterNotice_air (s : State) (cause : MeterCause) (p : Trip) :
    (s.meterNotice cause p).air = s.air := State.raise_air _ _ _ _
@[simp] theorem State.meterNotice_link (s : State) (cause : MeterCause) (p : Trip) :
    (s.meterNotice cause p).link = s.link := State.raise_link _ _ _ _
@[simp] theorem State.meterNotice_uls (s : State) (cause : MeterCause) (p : Trip) :
    (s.meterNotice cause p).uls = s.uls := State.raise_uls _ _ _ _
@[simp] theorem State.meterNotice_zone (s : State) (cause : MeterCause) (p : Trip) :
    (s.meterNotice cause p).zone = s.zone := State.raise_zone _ _ _ _
@[simp] theorem State.meterNotice_offers (s : State) (cause : MeterCause) (p : Trip) :
    (s.meterNotice cause p).offers = s.offers := State.raise_offers _ _ _ _
@[simp] theorem State.meterNotice_jobs (s : State) (cause : MeterCause) (p : Trip) :
    (s.meterNotice cause p).jobs = s.jobs := State.raise_jobs _ _ _ _
@[simp] theorem State.meterNotice_meter (s : State) (cause : MeterCause) (p : Trip) :
    (s.meterNotice cause p).meter = s.meter := State.raise_meter _ _ _ _
@[simp] theorem State.meterNotice_trips (s : State) (cause : MeterCause) (p : Trip) :
    (s.meterNotice cause p).trips = s.trips := State.raise_trips _ _ _ _
@[simp] theorem State.meterNotice_msgs (s : State) (cause : MeterCause) (p : Trip) :
    (s.meterNotice cause p).msgs = s.msgs := State.raise_msgs _ _ _ _
@[simp] theorem State.meterNotice_emu (s : State) (cause : MeterCause) (p : Trip) :
    (s.meterNotice cause p).emu = s.emu := State.raise_emu _ _ _ _
@[simp] theorem State.meterNotice_dcu (s : State) (cause : MeterCause) (p : Trip) :
    (s.meterNotice cause p).dcu = s.dcu := State.raise_dcu _ _ _ _
@[simp] theorem State.meterNotice_pending (s : State) (cause : MeterCause) (p : Trip) :
    (s.meterNotice cause p).pending = s.pending := State.raise_pending _ _ _ _

@[simp] theorem State.messageNotice_ms (s : State) (cause : MsgCause) (x : Message) :
    (s.messageNotice cause x).ms = s.ms := State.raise_ms _ _ _ _
@[simp] theorem State.messageNotice_vdd (s : State) (cause : MsgCause) (x : Message) :
    (s.messageNotice cause x).vdd = s.vdd := State.raise_vdd _ _ _ _
@[simp] theorem State.messageNotice_vbakLatch (s : State) (cause : MsgCause) (x : Message) :
    (s.messageNotice cause x).vbakLatch = s.vbakLatch := State.raise_vbakLatch _ _ _ _
@[simp] theorem State.messageNotice_cd (s : State) (cause : MsgCause) (x : Message) :
    (s.messageNotice cause x).cd = s.cd := State.raise_cd _ _ _ _
@[simp] theorem State.messageNotice_calen (s : State) (cause : MsgCause) (x : Message) :
    (s.messageNotice cause x).calen = s.calen := State.raise_calen _ _ _ _
@[simp] theorem State.messageNotice_air (s : State) (cause : MsgCause) (x : Message) :
    (s.messageNotice cause x).air = s.air := State.raise_air _ _ _ _
@[simp] theorem State.messageNotice_link (s : State) (cause : MsgCause) (x : Message) :
    (s.messageNotice cause x).link = s.link := State.raise_link _ _ _ _
@[simp] theorem State.messageNotice_uls (s : State) (cause : MsgCause) (x : Message) :
    (s.messageNotice cause x).uls = s.uls := State.raise_uls _ _ _ _
@[simp] theorem State.messageNotice_zone (s : State) (cause : MsgCause) (x : Message) :
    (s.messageNotice cause x).zone = s.zone := State.raise_zone _ _ _ _
@[simp] theorem State.messageNotice_offers (s : State) (cause : MsgCause) (x : Message) :
    (s.messageNotice cause x).offers = s.offers := State.raise_offers _ _ _ _
@[simp] theorem State.messageNotice_jobs (s : State) (cause : MsgCause) (x : Message) :
    (s.messageNotice cause x).jobs = s.jobs := State.raise_jobs _ _ _ _
@[simp] theorem State.messageNotice_meter (s : State) (cause : MsgCause) (x : Message) :
    (s.messageNotice cause x).meter = s.meter := State.raise_meter _ _ _ _
@[simp] theorem State.messageNotice_trips (s : State) (cause : MsgCause) (x : Message) :
    (s.messageNotice cause x).trips = s.trips := State.raise_trips _ _ _ _
@[simp] theorem State.messageNotice_msgs (s : State) (cause : MsgCause) (x : Message) :
    (s.messageNotice cause x).msgs = s.msgs := State.raise_msgs _ _ _ _
@[simp] theorem State.messageNotice_emu (s : State) (cause : MsgCause) (x : Message) :
    (s.messageNotice cause x).emu = s.emu := State.raise_emu _ _ _ _
@[simp] theorem State.messageNotice_dcu (s : State) (cause : MsgCause) (x : Message) :
    (s.messageNotice cause x).dcu = s.dcu := State.raise_dcu _ _ _ _
@[simp] theorem State.messageNotice_pending (s : State) (cause : MsgCause) (x : Message) :
    (s.messageNotice cause x).pending = s.pending := State.raise_pending _ _ _ _

@[simp] theorem State.emergencyNotice_ms (s : State) (cause : EmergencyCause) (shown : EmergencyState)
    (episode beacons : Nat) :
    (s.emergencyNotice cause shown episode beacons).ms = s.ms := State.raise_ms _ _ _ _
@[simp] theorem State.emergencyNotice_vdd (s : State) (cause : EmergencyCause) (shown : EmergencyState)
    (episode beacons : Nat) :
    (s.emergencyNotice cause shown episode beacons).vdd = s.vdd := State.raise_vdd _ _ _ _
@[simp] theorem State.emergencyNotice_vbakLatch (s : State) (cause : EmergencyCause) (shown : EmergencyState)
    (episode beacons : Nat) :
    (s.emergencyNotice cause shown episode beacons).vbakLatch = s.vbakLatch := State.raise_vbakLatch _ _ _ _
@[simp] theorem State.emergencyNotice_cd (s : State) (cause : EmergencyCause) (shown : EmergencyState)
    (episode beacons : Nat) :
    (s.emergencyNotice cause shown episode beacons).cd = s.cd := State.raise_cd _ _ _ _
@[simp] theorem State.emergencyNotice_calen (s : State) (cause : EmergencyCause) (shown : EmergencyState)
    (episode beacons : Nat) :
    (s.emergencyNotice cause shown episode beacons).calen = s.calen := State.raise_calen _ _ _ _
@[simp] theorem State.emergencyNotice_air (s : State) (cause : EmergencyCause) (shown : EmergencyState)
    (episode beacons : Nat) :
    (s.emergencyNotice cause shown episode beacons).air = s.air := State.raise_air _ _ _ _
@[simp] theorem State.emergencyNotice_link (s : State) (cause : EmergencyCause) (shown : EmergencyState)
    (episode beacons : Nat) :
    (s.emergencyNotice cause shown episode beacons).link = s.link := State.raise_link _ _ _ _
@[simp] theorem State.emergencyNotice_uls (s : State) (cause : EmergencyCause) (shown : EmergencyState)
    (episode beacons : Nat) :
    (s.emergencyNotice cause shown episode beacons).uls = s.uls := State.raise_uls _ _ _ _
@[simp] theorem State.emergencyNotice_zone (s : State) (cause : EmergencyCause) (shown : EmergencyState)
    (episode beacons : Nat) :
    (s.emergencyNotice cause shown episode beacons).zone = s.zone := State.raise_zone _ _ _ _
@[simp] theorem State.emergencyNotice_offers (s : State) (cause : EmergencyCause) (shown : EmergencyState)
    (episode beacons : Nat) :
    (s.emergencyNotice cause shown episode beacons).offers = s.offers := State.raise_offers _ _ _ _
@[simp] theorem State.emergencyNotice_jobs (s : State) (cause : EmergencyCause) (shown : EmergencyState)
    (episode beacons : Nat) :
    (s.emergencyNotice cause shown episode beacons).jobs = s.jobs := State.raise_jobs _ _ _ _
@[simp] theorem State.emergencyNotice_meter (s : State) (cause : EmergencyCause) (shown : EmergencyState)
    (episode beacons : Nat) :
    (s.emergencyNotice cause shown episode beacons).meter = s.meter := State.raise_meter _ _ _ _
@[simp] theorem State.emergencyNotice_trips (s : State) (cause : EmergencyCause) (shown : EmergencyState)
    (episode beacons : Nat) :
    (s.emergencyNotice cause shown episode beacons).trips = s.trips := State.raise_trips _ _ _ _
@[simp] theorem State.emergencyNotice_msgs (s : State) (cause : EmergencyCause) (shown : EmergencyState)
    (episode beacons : Nat) :
    (s.emergencyNotice cause shown episode beacons).msgs = s.msgs := State.raise_msgs _ _ _ _
@[simp] theorem State.emergencyNotice_emu (s : State) (cause : EmergencyCause) (shown : EmergencyState)
    (episode beacons : Nat) :
    (s.emergencyNotice cause shown episode beacons).emu = s.emu := State.raise_emu _ _ _ _
@[simp] theorem State.emergencyNotice_dcu (s : State) (cause : EmergencyCause) (shown : EmergencyState)
    (episode beacons : Nat) :
    (s.emergencyNotice cause shown episode beacons).dcu = s.dcu := State.raise_dcu _ _ _ _
@[simp] theorem State.emergencyNotice_pending (s : State) (cause : EmergencyCause) (shown : EmergencyState)
    (episode beacons : Nat) :
    (s.emergencyNotice cause shown episode beacons).pending = s.pending := State.raise_pending _ _ _ _

@[simp] theorem State.linkNotice_ms (s : State) (cause : LinkCause) :
    (s.linkNotice cause).ms = s.ms := State.raise_ms _ _ _ _
@[simp] theorem State.linkNotice_vdd (s : State) (cause : LinkCause) :
    (s.linkNotice cause).vdd = s.vdd := State.raise_vdd _ _ _ _
@[simp] theorem State.linkNotice_vbakLatch (s : State) (cause : LinkCause) :
    (s.linkNotice cause).vbakLatch = s.vbakLatch := State.raise_vbakLatch _ _ _ _
@[simp] theorem State.linkNotice_cd (s : State) (cause : LinkCause) :
    (s.linkNotice cause).cd = s.cd := State.raise_cd _ _ _ _
@[simp] theorem State.linkNotice_calen (s : State) (cause : LinkCause) :
    (s.linkNotice cause).calen = s.calen := State.raise_calen _ _ _ _
@[simp] theorem State.linkNotice_air (s : State) (cause : LinkCause) :
    (s.linkNotice cause).air = s.air := State.raise_air _ _ _ _
@[simp] theorem State.linkNotice_link (s : State) (cause : LinkCause) :
    (s.linkNotice cause).link = s.link := State.raise_link _ _ _ _
@[simp] theorem State.linkNotice_uls (s : State) (cause : LinkCause) :
    (s.linkNotice cause).uls = s.uls := State.raise_uls _ _ _ _
@[simp] theorem State.linkNotice_zone (s : State) (cause : LinkCause) :
    (s.linkNotice cause).zone = s.zone := State.raise_zone _ _ _ _
@[simp] theorem State.linkNotice_offers (s : State) (cause : LinkCause) :
    (s.linkNotice cause).offers = s.offers := State.raise_offers _ _ _ _
@[simp] theorem State.linkNotice_jobs (s : State) (cause : LinkCause) :
    (s.linkNotice cause).jobs = s.jobs := State.raise_jobs _ _ _ _
@[simp] theorem State.linkNotice_meter (s : State) (cause : LinkCause) :
    (s.linkNotice cause).meter = s.meter := State.raise_meter _ _ _ _
@[simp] theorem State.linkNotice_trips (s : State) (cause : LinkCause) :
    (s.linkNotice cause).trips = s.trips := State.raise_trips _ _ _ _
@[simp] theorem State.linkNotice_msgs (s : State) (cause : LinkCause) :
    (s.linkNotice cause).msgs = s.msgs := State.raise_msgs _ _ _ _
@[simp] theorem State.linkNotice_emu (s : State) (cause : LinkCause) :
    (s.linkNotice cause).emu = s.emu := State.raise_emu _ _ _ _
@[simp] theorem State.linkNotice_dcu (s : State) (cause : LinkCause) :
    (s.linkNotice cause).dcu = s.dcu := State.raise_dcu _ _ _ _
@[simp] theorem State.linkNotice_pending (s : State) (cause : LinkCause) :
    (s.linkNotice cause).pending = s.pending := State.raise_pending _ _ _ _

@[simp] theorem State.tableNotice_ms (s : State) (kind : TableKind) (version : Nat) :
    (s.tableNotice kind version).ms = s.ms := State.raise_ms _ _ _ _
@[simp] theorem State.tableNotice_vdd (s : State) (kind : TableKind) (version : Nat) :
    (s.tableNotice kind version).vdd = s.vdd := State.raise_vdd _ _ _ _
@[simp] theorem State.tableNotice_vbakLatch (s : State) (kind : TableKind) (version : Nat) :
    (s.tableNotice kind version).vbakLatch = s.vbakLatch := State.raise_vbakLatch _ _ _ _
@[simp] theorem State.tableNotice_cd (s : State) (kind : TableKind) (version : Nat) :
    (s.tableNotice kind version).cd = s.cd := State.raise_cd _ _ _ _
@[simp] theorem State.tableNotice_calen (s : State) (kind : TableKind) (version : Nat) :
    (s.tableNotice kind version).calen = s.calen := State.raise_calen _ _ _ _
@[simp] theorem State.tableNotice_air (s : State) (kind : TableKind) (version : Nat) :
    (s.tableNotice kind version).air = s.air := State.raise_air _ _ _ _
@[simp] theorem State.tableNotice_link (s : State) (kind : TableKind) (version : Nat) :
    (s.tableNotice kind version).link = s.link := State.raise_link _ _ _ _
@[simp] theorem State.tableNotice_uls (s : State) (kind : TableKind) (version : Nat) :
    (s.tableNotice kind version).uls = s.uls := State.raise_uls _ _ _ _
@[simp] theorem State.tableNotice_zone (s : State) (kind : TableKind) (version : Nat) :
    (s.tableNotice kind version).zone = s.zone := State.raise_zone _ _ _ _
@[simp] theorem State.tableNotice_offers (s : State) (kind : TableKind) (version : Nat) :
    (s.tableNotice kind version).offers = s.offers := State.raise_offers _ _ _ _
@[simp] theorem State.tableNotice_jobs (s : State) (kind : TableKind) (version : Nat) :
    (s.tableNotice kind version).jobs = s.jobs := State.raise_jobs _ _ _ _
@[simp] theorem State.tableNotice_meter (s : State) (kind : TableKind) (version : Nat) :
    (s.tableNotice kind version).meter = s.meter := State.raise_meter _ _ _ _
@[simp] theorem State.tableNotice_trips (s : State) (kind : TableKind) (version : Nat) :
    (s.tableNotice kind version).trips = s.trips := State.raise_trips _ _ _ _
@[simp] theorem State.tableNotice_msgs (s : State) (kind : TableKind) (version : Nat) :
    (s.tableNotice kind version).msgs = s.msgs := State.raise_msgs _ _ _ _
@[simp] theorem State.tableNotice_emu (s : State) (kind : TableKind) (version : Nat) :
    (s.tableNotice kind version).emu = s.emu := State.raise_emu _ _ _ _
@[simp] theorem State.tableNotice_dcu (s : State) (kind : TableKind) (version : Nat) :
    (s.tableNotice kind version).dcu = s.dcu := State.raise_dcu _ _ _ _
@[simp] theorem State.tableNotice_pending (s : State) (kind : TableKind) (version : Nat) :
    (s.tableNotice kind version).pending = s.pending := State.raise_pending _ _ _ _

@[simp] theorem State.barNotice_ms (s : State) (cause : Nat) :
    (s.barNotice cause).ms = s.ms := State.raise_ms _ _ _ _
@[simp] theorem State.barNotice_vdd (s : State) (cause : Nat) :
    (s.barNotice cause).vdd = s.vdd := State.raise_vdd _ _ _ _
@[simp] theorem State.barNotice_vbakLatch (s : State) (cause : Nat) :
    (s.barNotice cause).vbakLatch = s.vbakLatch := State.raise_vbakLatch _ _ _ _
@[simp] theorem State.barNotice_cd (s : State) (cause : Nat) :
    (s.barNotice cause).cd = s.cd := State.raise_cd _ _ _ _
@[simp] theorem State.barNotice_calen (s : State) (cause : Nat) :
    (s.barNotice cause).calen = s.calen := State.raise_calen _ _ _ _
@[simp] theorem State.barNotice_air (s : State) (cause : Nat) :
    (s.barNotice cause).air = s.air := State.raise_air _ _ _ _
@[simp] theorem State.barNotice_link (s : State) (cause : Nat) :
    (s.barNotice cause).link = s.link := State.raise_link _ _ _ _
@[simp] theorem State.barNotice_uls (s : State) (cause : Nat) :
    (s.barNotice cause).uls = s.uls := State.raise_uls _ _ _ _
@[simp] theorem State.barNotice_zone (s : State) (cause : Nat) :
    (s.barNotice cause).zone = s.zone := State.raise_zone _ _ _ _
@[simp] theorem State.barNotice_offers (s : State) (cause : Nat) :
    (s.barNotice cause).offers = s.offers := State.raise_offers _ _ _ _
@[simp] theorem State.barNotice_jobs (s : State) (cause : Nat) :
    (s.barNotice cause).jobs = s.jobs := State.raise_jobs _ _ _ _
@[simp] theorem State.barNotice_meter (s : State) (cause : Nat) :
    (s.barNotice cause).meter = s.meter := State.raise_meter _ _ _ _
@[simp] theorem State.barNotice_trips (s : State) (cause : Nat) :
    (s.barNotice cause).trips = s.trips := State.raise_trips _ _ _ _
@[simp] theorem State.barNotice_msgs (s : State) (cause : Nat) :
    (s.barNotice cause).msgs = s.msgs := State.raise_msgs _ _ _ _
@[simp] theorem State.barNotice_emu (s : State) (cause : Nat) :
    (s.barNotice cause).emu = s.emu := State.raise_emu _ _ _ _
@[simp] theorem State.barNotice_dcu (s : State) (cause : Nat) :
    (s.barNotice cause).dcu = s.dcu := State.raise_dcu _ _ _ _
@[simp] theorem State.barNotice_pending (s : State) (cause : Nat) :
    (s.barNotice cause).pending = s.pending := State.raise_pending _ _ _ _

end Sys2Proof.Machine
end

