-- ==== Sys2Proof/Laws/Radio.lean ====
section
/-!
SUPPORT. What the operations of the Uplink Scheduler leave alone: each is `radioWork` (Safety), and the
fields it does not touch read as before.
-/

namespace Sys2Proof.Machine

theorem State.radioWork_refl (s : State) : s.radioWork s := rfl

theorem State.radioWork_intro (s s' : State)
    (h : s' =
      { s with
        uls := s'.uls
        air := { s.air with rx := s'.air.rx }
        link := { s.link with silence := s'.link.silence } }) : s.radioWork s' := h

theorem State.radioWork.trans {s s' s'' : State} (h : s.radioWork s') (h' : s'.radioWork s'') :
    s.radioWork s'' := by
  unfold State.radioWork at *
  rw [h', h]

theorem State.setUls_radioWork (s : State) (v : Uls) : s.radioWork (s.setUls v) := rfl

theorem State.endAccess_radioWork (s : State) : s.radioWork s.endAccess := by
  unfold State.endAccess
  split <;> rfl

theorem State.key_radioWork (s : State) (item : TxItem) (kind : Nat) (body : List Byte) :
    s.radioWork (s.key item kind body) := rfl

theorem State.startCand_radioWork (s : State) (cand : Cand) : s.radioWork (s.startCand cand) := by
  unfold State.startCand
  split
  · split
    · exact (State.setUls_radioWork _ _).trans (State.key_radioWork _ _ _ _)
    · exact s.endAccess_radioWork
  · split
    · exact State.key_radioWork _ _ _ _
    · exact s.endAccess_radioWork
  · exact State.key_radioWork _ _ _ _

theorem State.finishBackoff_radioWork (s : State) (cand : Cand) : s.radioWork (s.finishBackoff cand) := by
  unfold State.finishBackoff
  split
  · split
    · exact s.startCand_radioWork cand
    · exact s.endAccess_radioWork
  · exact s.endAccess_radioWork

theorem State.draw_radioWork (s : State) : s.radioWork s.draw := rfl

theorem State.enterBackoff_radioWork (s : State) (cand : Cand) : s.radioWork (s.enterBackoff cand) := by
  have h : ∀ u v, s.radioWork (((s.setUls u).draw).setUls v) := fun u v =>
    ((s.setUls_radioWork u).trans (State.draw_radioWork _)).trans (State.setUls_radioWork _ v)
  unfold State.enterBackoff
  simp only
  split
  · exact (h _ _).trans (State.finishBackoff_radioWork _ cand)
  · exact h _ _

theorem State.beginClear_radioWork (s : State) (cand : Cand) : s.radioWork (s.beginClear cand) := by
  unfold State.beginClear
  simp only
  split
  · refine State.radioWork.trans ?_ (State.enterBackoff_radioWork _ cand)
    rfl
  · rfl

theorem State.enterClearing_radioWork (s : State) (cand : Cand) :
    s.radioWork (s.enterClearing cand) := by
  unfold State.enterClearing
  split
  · rfl
  · exact s.beginClear_radioWork cand

theorem State.choose_radioWork (s : State) : s.radioWork s.choose := by
  unfold State.choose
  split
  · split
    · unfold State.beginAccess
      split
      · refine State.radioWork.trans ?_ (State.enterClearing_radioWork _ _)
        rfl
      · exact s.enterClearing_radioWork _
      · exact s.enterClearing_radioWork _
    · rfl
  · rfl

theorem State.dropEntries_radioWork (s : State) (test : Entry → Bool) :
    s.radioWork (s.dropEntries test) := by
  unfold State.dropEntries
  simp only
  split
  · refine State.radioWork.trans ?_ (State.endAccess_radioWork _)
    rfl
  · rfl

theorem State.removeEntries_radioWork (s : State) (test : Entry → Bool) :
    s.radioWork (s.removeEntries test) := by
  unfold State.removeEntries
  split
  · exact (s.dropEntries_radioWork test).trans (State.choose_radioWork _)
  · rfl

theorem State.displaceAt_radioWork (s : State) (index : Nat) : s.radioWork (s.displaceAt index) := by
  unfold State.displaceAt
  simp only
  split
  · exact s.endAccess_radioWork.trans (State.setUls_radioWork _ _)
  · rfl

theorem State.joinNew_radioWork (s : State) (e : Entry) : s.radioWork (s.joinNew e).state := by
  unfold State.joinNew
  split
  · refine State.radioWork.trans ?_ (State.choose_radioWork _)
    rfl
  · split
    · refine State.radioWork.trans ?_ (State.choose_radioWork _)
      exact State.radioWork.trans (s.displaceAt_radioWork _) (State.radioWork_intro _ _ rfl)
    · rfl

theorem State.join_radioWork (s : State) (kind : UplinkKind) (body : List Byte)
    (bid : Option BidTimes) : s.radioWork (s.join kind body bid).state := by
  unfold State.join
  split
  · split
    · refine State.radioWork.trans ?_ (State.choose_radioWork _)
      rfl
    · refine State.radioWork.trans ?_ (State.joinNew_radioWork _ _)
      rfl
  · exact s.joinNew_radioWork _

theorem State.queue_radioWork (s : State) (kind : UplinkKind) (body : List Byte) :
    s.radioWork (s.queue kind body) :=
  s.join_radioWork kind body none

/-! ## Fields that read as before -/

@[simp] theorem State.endAccess_ms (s : State) : s.endAccess.ms = s.ms := by
  rw [s.endAccess_radioWork]
@[simp] theorem State.endAccess_vdd (s : State) : s.endAccess.vdd = s.vdd := by
  rw [s.endAccess_radioWork]
@[simp] theorem State.endAccess_vbakLatch (s : State) : s.endAccess.vbakLatch = s.vbakLatch := by
  rw [s.endAccess_radioWork]
@[simp] theorem State.endAccess_cd (s : State) : s.endAccess.cd = s.cd := by
  rw [s.endAccess_radioWork]
@[simp] theorem State.endAccess_calen (s : State) : s.endAccess.calen = s.calen := by
  rw [s.endAccess_radioWork]
@[simp] theorem State.endAccess_zone (s : State) : s.endAccess.zone = s.zone := by
  rw [s.endAccess_radioWork]
@[simp] theorem State.endAccess_offers (s : State) : s.endAccess.offers = s.offers := by
  rw [s.endAccess_radioWork]
@[simp] theorem State.endAccess_jobs (s : State) : s.endAccess.jobs = s.jobs := by
  rw [s.endAccess_radioWork]
@[simp] theorem State.endAccess_meter (s : State) : s.endAccess.meter = s.meter := by
  rw [s.endAccess_radioWork]
@[simp] theorem State.endAccess_trips (s : State) : s.endAccess.trips = s.trips := by
  rw [s.endAccess_radioWork]
@[simp] theorem State.endAccess_msgs (s : State) : s.endAccess.msgs = s.msgs := by
  rw [s.endAccess_radioWork]
@[simp] theorem State.endAccess_emu (s : State) : s.endAccess.emu = s.emu := by
  rw [s.endAccess_radioWork]
@[simp] theorem State.endAccess_dcu (s : State) : s.endAccess.dcu = s.dcu := by
  rw [s.endAccess_radioWork]
@[simp] theorem State.endAccess_cab (s : State) : s.endAccess.cab = s.cab := by
  rw [s.endAccess_radioWork]
@[simp] theorem State.endAccess_pending (s : State) : s.endAccess.pending = s.pending := by
  rw [s.endAccess_radioWork]
@[simp] theorem State.endAccess_air_counters (s : State) : s.endAccess.air.counters = s.air.counters := by
  rw [s.endAccess_radioWork]

@[simp] theorem State.choose_ms (s : State) : s.choose.ms = s.ms := by
  rw [s.choose_radioWork]
@[simp] theorem State.choose_vdd (s : State) : s.choose.vdd = s.vdd := by
  rw [s.choose_radioWork]
@[simp] theorem State.choose_vbakLatch (s : State) : s.choose.vbakLatch = s.vbakLatch := by
  rw [s.choose_radioWork]
@[simp] theorem State.choose_cd (s : State) : s.choose.cd = s.cd := by
  rw [s.choose_radioWork]
@[simp] theorem State.choose_calen (s : State) : s.choose.calen = s.calen := by
  rw [s.choose_radioWork]
@[simp] theorem State.choose_zone (s : State) : s.choose.zone = s.zone := by
  rw [s.choose_radioWork]
@[simp] theorem State.choose_offers (s : State) : s.choose.offers = s.offers := by
  rw [s.choose_radioWork]
@[simp] theorem State.choose_jobs (s : State) : s.choose.jobs = s.jobs := by
  rw [s.choose_radioWork]
@[simp] theorem State.choose_meter (s : State) : s.choose.meter = s.meter := by
  rw [s.choose_radioWork]
@[simp] theorem State.choose_trips (s : State) : s.choose.trips = s.trips := by
  rw [s.choose_radioWork]
@[simp] theorem State.choose_msgs (s : State) : s.choose.msgs = s.msgs := by
  rw [s.choose_radioWork]
@[simp] theorem State.choose_emu (s : State) : s.choose.emu = s.emu := by
  rw [s.choose_radioWork]
@[simp] theorem State.choose_dcu (s : State) : s.choose.dcu = s.dcu := by
  rw [s.choose_radioWork]
@[simp] theorem State.choose_cab (s : State) : s.choose.cab = s.cab := by
  rw [s.choose_radioWork]
@[simp] theorem State.choose_pending (s : State) : s.choose.pending = s.pending := by
  rw [s.choose_radioWork]
@[simp] theorem State.choose_air_counters (s : State) : s.choose.air.counters = s.air.counters := by
  rw [s.choose_radioWork]

@[simp] theorem State.removeEntries_ms (s : State) (test : Entry → Bool) : (s.removeEntries test).ms = s.ms := by
  rw [s.removeEntries_radioWork test]
@[simp] theorem State.removeEntries_vdd (s : State) (test : Entry → Bool) : (s.removeEntries test).vdd = s.vdd := by
  rw [s.removeEntries_radioWork test]
@[simp] theorem State.removeEntries_vbakLatch (s : State) (test : Entry → Bool) : (s.removeEntries test).vbakLatch = s.vbakLatch := by
  rw [s.removeEntries_radioWork test]
@[simp] theorem State.removeEntries_cd (s : State) (test : Entry → Bool) : (s.removeEntries test).cd = s.cd := by
  rw [s.removeEntries_radioWork test]
@[simp] theorem State.removeEntries_calen (s : State) (test : Entry → Bool) : (s.removeEntries test).calen = s.calen := by
  rw [s.removeEntries_radioWork test]
@[simp] theorem State.removeEntries_zone (s : State) (test : Entry → Bool) : (s.removeEntries test).zone = s.zone := by
  rw [s.removeEntries_radioWork test]
@[simp] theorem State.removeEntries_offers (s : State) (test : Entry → Bool) : (s.removeEntries test).offers = s.offers := by
  rw [s.removeEntries_radioWork test]
@[simp] theorem State.removeEntries_jobs (s : State) (test : Entry → Bool) : (s.removeEntries test).jobs = s.jobs := by
  rw [s.removeEntries_radioWork test]
@[simp] theorem State.removeEntries_meter (s : State) (test : Entry → Bool) : (s.removeEntries test).meter = s.meter := by
  rw [s.removeEntries_radioWork test]
@[simp] theorem State.removeEntries_trips (s : State) (test : Entry → Bool) : (s.removeEntries test).trips = s.trips := by
  rw [s.removeEntries_radioWork test]
@[simp] theorem State.removeEntries_msgs (s : State) (test : Entry → Bool) : (s.removeEntries test).msgs = s.msgs := by
  rw [s.removeEntries_radioWork test]
@[simp] theorem State.removeEntries_emu (s : State) (test : Entry → Bool) : (s.removeEntries test).emu = s.emu := by
  rw [s.removeEntries_radioWork test]
@[simp] theorem State.removeEntries_dcu (s : State) (test : Entry → Bool) : (s.removeEntries test).dcu = s.dcu := by
  rw [s.removeEntries_radioWork test]
@[simp] theorem State.removeEntries_cab (s : State) (test : Entry → Bool) : (s.removeEntries test).cab = s.cab := by
  rw [s.removeEntries_radioWork test]
@[simp] theorem State.removeEntries_pending (s : State) (test : Entry → Bool) : (s.removeEntries test).pending = s.pending := by
  rw [s.removeEntries_radioWork test]
@[simp] theorem State.removeEntries_air_counters (s : State) (test : Entry → Bool) : (s.removeEntries test).air.counters = s.air.counters := by
  rw [s.removeEntries_radioWork test]

@[simp] theorem State.queue_ms (s : State) (kind : UplinkKind) (body : List Byte) : (s.queue kind body).ms = s.ms := by
  rw [s.queue_radioWork kind body]
@[simp] theorem State.queue_vdd (s : State) (kind : UplinkKind) (body : List Byte) : (s.queue kind body).vdd = s.vdd := by
  rw [s.queue_radioWork kind body]
@[simp] theorem State.queue_vbakLatch (s : State) (kind : UplinkKind) (body : List Byte) : (s.queue kind body).vbakLatch = s.vbakLatch := by
  rw [s.queue_radioWork kind body]
@[simp] theorem State.queue_cd (s : State) (kind : UplinkKind) (body : List Byte) : (s.queue kind body).cd = s.cd := by
  rw [s.queue_radioWork kind body]
@[simp] theorem State.queue_calen (s : State) (kind : UplinkKind) (body : List Byte) : (s.queue kind body).calen = s.calen := by
  rw [s.queue_radioWork kind body]
@[simp] theorem State.queue_zone (s : State) (kind : UplinkKind) (body : List Byte) : (s.queue kind body).zone = s.zone := by
  rw [s.queue_radioWork kind body]
@[simp] theorem State.queue_offers (s : State) (kind : UplinkKind) (body : List Byte) : (s.queue kind body).offers = s.offers := by
  rw [s.queue_radioWork kind body]
@[simp] theorem State.queue_jobs (s : State) (kind : UplinkKind) (body : List Byte) : (s.queue kind body).jobs = s.jobs := by
  rw [s.queue_radioWork kind body]
@[simp] theorem State.queue_meter (s : State) (kind : UplinkKind) (body : List Byte) : (s.queue kind body).meter = s.meter := by
  rw [s.queue_radioWork kind body]
@[simp] theorem State.queue_trips (s : State) (kind : UplinkKind) (body : List Byte) : (s.queue kind body).trips = s.trips := by
  rw [s.queue_radioWork kind body]
@[simp] theorem State.queue_msgs (s : State) (kind : UplinkKind) (body : List Byte) : (s.queue kind body).msgs = s.msgs := by
  rw [s.queue_radioWork kind body]
@[simp] theorem State.queue_emu (s : State) (kind : UplinkKind) (body : List Byte) : (s.queue kind body).emu = s.emu := by
  rw [s.queue_radioWork kind body]
@[simp] theorem State.queue_dcu (s : State) (kind : UplinkKind) (body : List Byte) : (s.queue kind body).dcu = s.dcu := by
  rw [s.queue_radioWork kind body]
@[simp] theorem State.queue_cab (s : State) (kind : UplinkKind) (body : List Byte) : (s.queue kind body).cab = s.cab := by
  rw [s.queue_radioWork kind body]
@[simp] theorem State.queue_pending (s : State) (kind : UplinkKind) (body : List Byte) : (s.queue kind body).pending = s.pending := by
  rw [s.queue_radioWork kind body]
@[simp] theorem State.queue_air_counters (s : State) (kind : UplinkKind) (body : List Byte) : (s.queue kind body).air.counters = s.air.counters := by
  rw [s.queue_radioWork kind body]

@[simp] theorem State.join_ms (s : State) (kind : UplinkKind) (body : List Byte)
    (bid : Option BidTimes) : (s.join kind body bid).state.ms = s.ms := by
  rw [s.join_radioWork kind body bid]
@[simp] theorem State.join_vdd (s : State) (kind : UplinkKind) (body : List Byte)
    (bid : Option BidTimes) : (s.join kind body bid).state.vdd = s.vdd := by
  rw [s.join_radioWork kind body bid]
@[simp] theorem State.join_vbakLatch (s : State) (kind : UplinkKind) (body : List Byte)
    (bid : Option BidTimes) : (s.join kind body bid).state.vbakLatch = s.vbakLatch := by
  rw [s.join_radioWork kind body bid]
@[simp] theorem State.join_cd (s : State) (kind : UplinkKind) (body : List Byte)
    (bid : Option BidTimes) : (s.join kind body bid).state.cd = s.cd := by
  rw [s.join_radioWork kind body bid]
@[simp] theorem State.join_calen (s : State) (kind : UplinkKind) (body : List Byte)
    (bid : Option BidTimes) : (s.join kind body bid).state.calen = s.calen := by
  rw [s.join_radioWork kind body bid]
@[simp] theorem State.join_zone (s : State) (kind : UplinkKind) (body : List Byte)
    (bid : Option BidTimes) : (s.join kind body bid).state.zone = s.zone := by
  rw [s.join_radioWork kind body bid]
@[simp] theorem State.join_offers (s : State) (kind : UplinkKind) (body : List Byte)
    (bid : Option BidTimes) : (s.join kind body bid).state.offers = s.offers := by
  rw [s.join_radioWork kind body bid]
@[simp] theorem State.join_jobs (s : State) (kind : UplinkKind) (body : List Byte)
    (bid : Option BidTimes) : (s.join kind body bid).state.jobs = s.jobs := by
  rw [s.join_radioWork kind body bid]
@[simp] theorem State.join_meter (s : State) (kind : UplinkKind) (body : List Byte)
    (bid : Option BidTimes) : (s.join kind body bid).state.meter = s.meter := by
  rw [s.join_radioWork kind body bid]
@[simp] theorem State.join_trips (s : State) (kind : UplinkKind) (body : List Byte)
    (bid : Option BidTimes) : (s.join kind body bid).state.trips = s.trips := by
  rw [s.join_radioWork kind body bid]
@[simp] theorem State.join_msgs (s : State) (kind : UplinkKind) (body : List Byte)
    (bid : Option BidTimes) : (s.join kind body bid).state.msgs = s.msgs := by
  rw [s.join_radioWork kind body bid]
@[simp] theorem State.join_emu (s : State) (kind : UplinkKind) (body : List Byte)
    (bid : Option BidTimes) : (s.join kind body bid).state.emu = s.emu := by
  rw [s.join_radioWork kind body bid]
@[simp] theorem State.join_dcu (s : State) (kind : UplinkKind) (body : List Byte)
    (bid : Option BidTimes) : (s.join kind body bid).state.dcu = s.dcu := by
  rw [s.join_radioWork kind body bid]
@[simp] theorem State.join_cab (s : State) (kind : UplinkKind) (body : List Byte)
    (bid : Option BidTimes) : (s.join kind body bid).state.cab = s.cab := by
  rw [s.join_radioWork kind body bid]
@[simp] theorem State.join_pending (s : State) (kind : UplinkKind) (body : List Byte)
    (bid : Option BidTimes) : (s.join kind body bid).state.pending = s.pending := by
  rw [s.join_radioWork kind body bid]

end Sys2Proof.Machine
end

