-- ==== Sys2Proof/Laws/Air.lean ====
section
/-!
SUPPORT. What a delivery does, said once: a telegram that the part hears is taken by the owner of its row,
with the receive buffer free and the site reported.
-/

namespace Sys2Proof.Machine

theorem State.fate_handed_site {s : State} {h : Header} {body : List Byte} {g : Telegram}
    (hf : s.fate h body = .handed g) : g.site = h.site := by
  unfold State.fate at hf
  split at hf
  · cases hf
  · split at hf
    · cases hf
    · split at hf
      · cases hf
      · split at hf
        · cases hf
        · split at hf
          · cases hf
          · cases hf
            rfl

/-- A telegram that is heard is acted on by a command of its row. -/
theorem State.delivery_of_hears {s : State} {rx : List Byte} {g : Telegram} (h : s.hears rx g)
    {mine : Telegram → Bool} (hm : mine g = true) (act : Telegram → State → State) :
    s.delivery rx mine act = s.afterReport g.site (act g (s.found g.site)) := by
  obtain ⟨d, hc, ha, hf⟩ := h
  simp only [State.delivery, hc, State.takeDelivery, ha, hf, hm, if_true, State.found,
    State.fate_handed_site hf]

/-- A telegram that is heard has no effect under a command of another row. -/
theorem State.delivery_of_hears_other {s : State} {rx : List Byte} {g : Telegram} (h : s.hears rx g)
    {mine : Telegram → Bool} (hm : mine g = false) (act : Telegram → State → State) :
    s.delivery rx mine act = s := by
  obtain ⟨d, hc, ha, hf⟩ := h
  simp [State.delivery, hc, State.takeDelivery, ha, hf, hm]

/-- An overdue delivery leaves none to close with the bytes of a command: one that closes comes first (R1). -/
theorem State.overdue_of_closing {s : State} {rx : List Byte} {d : Delivery} (h : s.closing rx = some d) :
    rx = [] ∨ s.overdue = none := by
  unfold State.closing at h
  by_cases hr : rx = []
  · exact .inl hr
  · cases hs : s.overdue with
    | none => exact .inr rfl
    | some e =>
      simp only [hr, if_false, hs, Option.isSome_some, if_true, ite_self] at h
      cases h

/-- Where a delivery closes at a command, none closes before its bytes (R1). -/
theorem State.beforeBytes_of_closing {s : State} {t : Stamp} {rx : List Byte} {d : Delivery}
    (h : (s.advanceTo t).closing rx = some d) : s.beforeBytes t rx = s := by
  unfold State.beforeBytes State.closeOverdue
  rcases State.overdue_of_closing h with hr | ho
  · simp [hr]
  · simp [ho]

/-- The effect of a telegram command of the row of the telegram heard. -/
theorem State.telegram_of_hears {s : State} {t : Stamp} {rx : List Byte} {g : Telegram}
    (hv : s.vdd = true) (h : (s.advanceTo t).hears rx g) {mine : Telegram → Bool} (hm : mine g = true) :
    s.telegram t rx mine =
      (s.advanceTo t).afterReport g.site (State.handOver g ((s.advanceTo t).found g.site)) := by
  obtain ⟨d, hc, ha, hf⟩ := h
  simp only [State.telegram, State.beforeBytes_of_closing hc, State.event, hv, if_true]
  exact State.delivery_of_hears ⟨d, hc, ha, hf⟩ hm _

/-- The Link Controller's report touches the link and the notices alone (R7, R22). -/
theorem State.linkReport_eq (s : State) (site : Nat) :
    s.linkReport site = { s with link := (s.linkReport site).link, cab := (s.linkReport site).cab } := by
  have hn : ∀ (k : Link) (c : LinkCause), (s.setLink k).linkNotice c =
      { s with link := ((s.setLink k).linkNotice c).link, cab := ((s.setLink k).linkNotice c).cab } := by
    intro k c
    have h := (s.setLink k).raise_cabWork .link c.code
      ((s.setLink k).linkSummary (s.setLink k).currentChannel)
    have h' : (s.setLink k).linkNotice c = { s.setLink k with cab := ((s.setLink k).linkNotice c).cab } := h
    rw [h']
    rfl
  unfold State.linkReport
  split
  · rfl
  · rfl
  · split
    · rfl
    · split
      · exact hn _ _
      · rfl

/-- A report that does not lock the link lets no choice through. -/
theorem State.afterReport_of_not {s : State} {site : Nat} (h : s.locksOn site = false) (q : State) :
    s.afterReport site q = q := by
  simp [State.afterReport, h]

/-- A report that locks the link is followed by the choice after the hand-off (R41). -/
theorem State.afterReport_of_locks {s : State} {site : Nat} (h : s.locksOn site = true) (q : State) :
    s.afterReport site q = q.choose := by
  simp [State.afterReport, h]

/-- What the end of an arrival may touch, over what its hand-off left (R41). -/
theorem State.afterReport_radioWork (s : State) (site : Nat) (q : State) :
    q.radioWork (s.afterReport site q) := by
  unfold State.afterReport
  split
  · exact q.choose_radioWork
  · rfl

end Sys2Proof.Machine
end

