-- ==== Sys2Proof/Laws/Memory.lean ====
section
/-!
SUPPORT. The memory of a table image: a write keeps the canonical form, what is written is read back,
and every other offset reads as before.
-/

namespace Sys2Proof.Machine

theorem Memory.wfFrom_mono {low low' : Nat} (h : low ≤ low') :
    ∀ {m : Memory}, Memory.wfFrom low' m = true → Memory.wfFrom low m = true
  | [], _ => rfl
  | (a, b) :: rest, hm => by
    simp only [Memory.wfFrom, Bool.and_eq_true, decide_eq_true_eq] at hm ⊢
    exact ⟨⟨by omega, hm.1.2⟩, hm.2⟩

theorem Memory.wfFrom_entry_append {low offset : Nat} {byte : Byte} {m : Memory} (h : low ≤ offset)
    (hm : Memory.wfFrom (offset + 1) m = true) :
    Memory.wfFrom low (Memory.entry offset byte ++ m) = true := by
  unfold Memory.entry
  split
  · exact Memory.wfFrom_mono (by omega) hm
  · rename_i hb
    simp [Memory.wfFrom, h, hb, hm]

theorem Memory.wfFrom_write {offset : Nat} {byte : Byte} :
    ∀ {low : Nat} {m : Memory}, low ≤ offset → Memory.wfFrom low m = true →
      Memory.wfFrom low (m.write offset byte) = true
  | low, [], h, _ => by
    have := Memory.wfFrom_entry_append (byte := byte) (m := []) h rfl
    simpa [Memory.write] using this
  | low, (a, b) :: rest, h, hm => by
    simp only [Memory.wfFrom, Bool.and_eq_true, decide_eq_true_eq] at hm
    unfold Memory.write
    split
    · exact Memory.wfFrom_entry_append h (by
        simp only [Memory.wfFrom, Bool.and_eq_true, decide_eq_true_eq]
        exact ⟨⟨by omega, hm.1.2⟩, hm.2⟩)
    · split
      · rename_i h' ha
        subst ha
        exact Memory.wfFrom_entry_append h hm.2
      · simp only [Memory.wfFrom, Bool.and_eq_true, decide_eq_true_eq]
        exact ⟨hm.1, Memory.wfFrom_write (by omega) hm.2⟩

/-- A write keeps the canonical form. -/
theorem Memory.wf_write {m : Memory} (h : m.wf = true) (offset : Nat) (byte : Byte) :
    (m.write offset byte).wf = true :=
  Memory.wfFrom_write (Nat.zero_le _) h

/-- Writing bytes one after another keeps the canonical form. -/
theorem Memory.wf_writeAll : ∀ (bytes : List Byte) {m : Memory} (offset : Nat), m.wf = true →
    (m.writeAll offset bytes).wf = true
  | [], _, _, h => h
  | b :: rest, _, offset, h => Memory.wf_writeAll rest (offset + 1) (Memory.wf_write h offset b)

theorem Memory.read_of_wfFrom {low : Nat} : ∀ {m : Memory} {offset : Nat},
    Memory.wfFrom low m = true → offset < low → m.read offset = Memory.unwritten
  | [], _, _, _ => rfl
  | (a, b) :: rest, offset, hm, h => by
    simp only [Memory.wfFrom, Bool.and_eq_true, decide_eq_true_eq] at hm
    have ha : a ≠ offset := by omega
    simp only [Memory.read, if_neg ha]
    exact Memory.read_of_wfFrom hm.2 (by omega)

theorem Memory.read_entry_append (m : Memory) (offset other : Nat) (byte : Byte)
    (hm : Memory.wfFrom (offset + 1) m = true) :
    (Memory.entry offset byte ++ m).read other = if other = offset then byte else m.read other := by
  unfold Memory.entry
  split
  · rename_i hb
    split
    · rename_i ho
      rw [ho, hb]
      exact Memory.read_of_wfFrom hm (by omega)
    · rfl
  · by_cases ho : other = offset
    · simp [Memory.read, ho]
    · simp [Memory.read, ho, Ne.symm ho]

/-- After a write the offset reads as the byte written, and every other offset as before. -/
theorem Memory.read_write : ∀ {low : Nat} {m : Memory} (offset other : Nat) (byte : Byte),
    Memory.wfFrom low m = true →
      (m.write offset byte).read other = if other = offset then byte else m.read other
  | _, [], offset, other, byte, _ => by
    have := Memory.read_entry_append [] offset other byte rfl
    simpa [Memory.write] using this
  | _, (a, b) :: rest, offset, other, byte, hm => by
    have hm' := hm
    simp only [Memory.wfFrom, Bool.and_eq_true, decide_eq_true_eq] at hm
    unfold Memory.write
    split
    · rw [Memory.read_entry_append]
      simp only [Memory.wfFrom, Bool.and_eq_true, decide_eq_true_eq]
      exact ⟨⟨by omega, hm.1.2⟩, hm.2⟩
    · split
      · rename_i h' ha
        subst ha
        rw [Memory.read_entry_append _ _ _ _ hm.2]
        split
        · rfl
        · rename_i ho
          simp [Memory.read, Ne.symm ho]
      · rename_i h' ha
        simp only [Memory.read]
        split
        · rename_i hao
          subst hao
          simp [Ne.symm ha]
        · exact Memory.read_write offset other byte hm.2

/-- The staged image of a LOAD DATA keeps its canonical form (R189). -/
theorem Staged.write_wf {g : Staged} (h : g.image.wf = true) (arg : LoadDataArg) :
    (g.write arg).image.wf = true :=
  Memory.wf_writeAll _ _ h

end Sys2Proof.Machine
end

