-- ==== Sys2Proof/Laws/PerInstr.lean ====
section
/-!
SUPPORT. Statements made for every command, one lemma per constructor of Instr.
-/

namespace Sys2Proof.Laws.RequestKinds

open Sys2Proof.Machine

/-- The frame of a well-formed request has a request kind, at most 64 body bytes, and a body length that
suits its kind (R201 to R203, section 13.4). -/
def Statement (i : Instr) : Prop :=
  ∀ kind body, i.request = some (kind, body) → i.wellFormed = true →
    isRequestKind kind = true ∧ body.length ≤ Config.frameBodyMax
      ∧ suits kind.toNat body.length = true

theorem of_other {i : Instr} (h : i.request = none) : Statement i :=
  fun _ _ h' _ => nomatch h.symm.trans h'

theorem of_request {i : Instr} {kind : Byte} {body : List Byte} (h : i.request = some (kind, body))
    (hk : isRequestKind kind = true) (hl : decide (body.length ≤ Config.frameBodyMax) = true)
    (hs : suits kind.toNat body.length = true) : Statement i := fun _ _ h' _ =>
  match h.symm.trans h' with
  | rfl => ⟨hk, of_decide_eq_true hl, hs⟩

theorem deliveryDropped (t : Stamp) (rx : List Byte) :
    Statement (.deliveryDropped t rx) :=
  of_other rfl

theorem siteBeacon (t : Stamp) (rx : List Byte) :
    Statement (.siteBeacon t rx) :=
  of_other rfl

theorem timeSet (t : Stamp) (rx : List Byte) :
    Statement (.timeSet t rx) :=
  of_other rfl

theorem offer (t : Stamp) (rx : List Byte) :
    Statement (.offer t rx) :=
  of_other rfl

theorem withdraw (t : Stamp) (rx : List Byte) :
    Statement (.withdraw t rx) :=
  of_other rfl

theorem award (t : Stamp) (rx : List Byte) :
    Statement (.award t rx) :=
  of_other rfl

theorem assign (t : Stamp) (rx : List Byte) :
    Statement (.assign t rx) :=
  of_other rfl

theorem jobCancel (t : Stamp) (rx : List Byte) :
    Statement (.jobCancel t rx) :=
  of_other rfl

theorem message (t : Stamp) (rx : List Byte) :
    Statement (.message t rx) :=
  of_other rfl

theorem emergencyAck (t : Stamp) (rx : List Byte) :
    Statement (.emergencyAck t rx) :=
  of_other rfl

theorem standDown (t : Stamp) (rx : List Byte) :
    Statement (.standDown t rx) :=
  of_other rfl

theorem tripRecall (t : Stamp) (rx : List Byte) :
    Statement (.tripRecall t rx) :=
  of_other rfl

theorem totalsQuery (t : Stamp) (rx : List Byte) :
    Statement (.totalsQuery t rx) :=
  of_other rfl

theorem statusQueryIdentity (t : Stamp) (rx : List Byte) :
    Statement (.statusQueryIdentity t rx) :=
  of_other rfl

theorem statusQueryVersions (t : Stamp) (rx : List Byte) :
    Statement (.statusQueryVersions t rx) :=
  of_other rfl

theorem statusQueryCounters (t : Stamp) (rx : List Byte) :
    Statement (.statusQueryCounters t rx) :=
  of_other rfl

theorem statusQuerySnapshot (t : Stamp) (rx : List Byte) :
    Statement (.statusQuerySnapshot t rx) :=
  of_other rfl

theorem bar (t : Stamp) (rx : List Byte) :
    Statement (.bar t rx) :=
  of_other rfl

theorem reinstate (t : Stamp) (rx : List Byte) :
    Statement (.reinstate t rx) :=
  of_other rfl

theorem restart (t : Stamp) (rx : List Byte) :
    Statement (.restart t rx) :=
  of_other rfl

theorem loadOpen (t : Stamp) (calen : Bool) (port : LoadPort LoadOpenArg) :
    Statement (.loadOpen t calen port) := by
  cases port with
  | air rx => exact of_other rfl
  | cab arg => exact of_request rfl rfl rfl rfl

theorem loadData (t : Stamp) (calen : Bool) (port : LoadPort LoadDataArg) :
    Statement (.loadData t calen port) := by
  intro k b h hw
  cases port with
  | air rx => simp [Instr.request] at h
  | cab arg =>
    simp only [Instr.request, Option.some.injEq, Prod.mk.injEq] at h
    obtain ⟨rfl, rfl⟩ := h
    simp only [Instr.wellFormed, Bool.and_eq_true, decide_eq_true_eq] at hw
    have hb : (be 2 arg.offset.toNat ++ arg.data).length = arg.data.length + 2 := rfl
    rw [hb]
    simp [isRequestKind, suits, requestBounds, Config.frameBodyMax]
    omega

theorem loadCommit (t : Stamp) (calen : Bool) (port : LoadPort Half) :
    Statement (.loadCommit t calen port) := by
  cases port with
  | air rx => exact of_other rfl
  | cab arg => exact of_request rfl rfl rfl rfl

theorem settleExpiry (t : Stamp) :
    Statement (.settleExpiry t) :=
  of_other rfl

theorem dwellExpiry (t : Stamp) :
    Statement (.dwellExpiry t) :=
  of_other rfl

theorem silenceExpiry (t : Stamp) :
    Statement (.silenceExpiry t) :=
  of_other rfl

theorem cdFall (t : Stamp) :
    Statement (.cdFall t) :=
  of_other rfl

theorem cdRise (t : Stamp) :
    Statement (.cdRise t) :=
  of_other rfl

theorem clearTimerExpiry (t : Stamp) :
    Statement (.clearTimerExpiry t) :=
  of_other rfl

theorem backoffEnd (t : Stamp) :
    Statement (.backoffEnd t) :=
  of_other rfl

theorem transmissionComplete (t : Stamp) :
    Statement (.transmissionComplete t) :=
  of_other rfl

theorem bidRelease (t : Stamp) :
    Statement (.bidRelease t) :=
  of_other rfl

theorem bidDeadline (t : Stamp) :
    Statement (.bidDeadline t) :=
  of_other rfl

theorem decisionDeadline (t : Stamp) (number : Half) :
    Statement (.decisionDeadline t number) :=
  of_other rfl

theorem lapseTime (t : Stamp) (number : Half) :
    Statement (.lapseTime t number) :=
  of_other rfl

theorem position (t : Stamp) (row col noFix : Byte) :
    Statement (.position t row col noFix) :=
  of_request rfl rfl rfl rfl

theorem accept (t : Stamp) (number : Half) :
    Statement (.accept t number) :=
  of_request rfl rfl rfl rfl

theorem decline (t : Stamp) (number : Half) :
    Statement (.decline t number) :=
  of_request rfl rfl rfl rfl

theorem arrived (t : Stamp) (job : Half) :
    Statement (.arrived t job) :=
  of_request rfl rfl rfl rfl

theorem noShow (t : Stamp) (job : Half) :
    Statement (.noShow t job) :=
  of_request rfl rfl rfl rfl

theorem shiftOpen (t : Stamp) (driver : Half) :
    Statement (.shiftOpen t driver) :=
  of_request rfl rfl rfl rfl

theorem shiftClose (t : Stamp) :
    Statement (.shiftClose t) :=
  of_request rfl rfl rfl rfl

theorem hire (t : Stamp) (form : Byte) :
    Statement (.hire t form) :=
  of_request rfl rfl rfl rfl

theorem stop (t : Stamp) :
    Statement (.stop t) :=
  of_request rfl rfl rfl rfl

theorem resume (t : Stamp) :
    Statement (.resume t) :=
  of_request rfl rfl rfl rfl

theorem pay (t : Stamp) (form : Byte) :
    Statement (.pay t form) :=
  of_request rfl rfl rfl rfl

theorem extra (t : Stamp) (index : Byte) :
    Statement (.extra t index) :=
  of_request rfl rfl rfl rfl

theorem readOfferTable (t : Stamp) :
    Statement (.readOfferTable t) :=
  of_request rfl rfl rfl rfl

theorem readOfferText (t : Stamp) (number : Half) (first : Byte) :
    Statement (.readOfferText t number first) :=
  of_request rfl rfl rfl rfl

theorem readJobBook (t : Stamp) :
    Statement (.readJobBook t) :=
  of_request rfl rfl rfl rfl

theorem readJobText (t : Stamp) (job : Half) (first : Byte) :
    Statement (.readJobText t job first) :=
  of_request rfl rfl rfl rfl

theorem readMeter (t : Stamp) :
    Statement (.readMeter t) :=
  of_request rfl rfl rfl rfl

theorem readTrip (t : Stamp) (sequence : BitVec 32) :
    Statement (.readTrip t sequence) :=
  of_request rfl rfl rfl rfl

theorem readShift (t : Stamp) (which : Byte) :
    Statement (.readShift t which) :=
  of_request rfl rfl rfl rfl

theorem readMessageList (t : Stamp) :
    Statement (.readMessageList t) :=
  of_request rfl rfl rfl rfl

theorem readMessageFields (t : Stamp) (number : Half) :
    Statement (.readMessageFields t number) :=
  of_request rfl rfl rfl rfl

theorem readMessageText (t : Stamp) (number : Half) (first : Byte) :
    Statement (.readMessageText t number first) :=
  of_request rfl rfl rfl rfl

theorem readMessagePhrase (t : Stamp) (number : Half) (phrase : Byte) :
    Statement (.readMessagePhrase t number phrase) :=
  of_request rfl rfl rfl rfl

theorem readLink (t : Stamp) :
    Statement (.readLink t) :=
  of_request rfl rfl rfl rfl

theorem readEmergency (t : Stamp) :
    Statement (.readEmergency t) :=
  of_request rfl rfl rfl rfl

theorem readCounters (t : Stamp) :
    Statement (.readCounters t) :=
  of_request rfl rfl rfl rfl

theorem markRead (t : Stamp) (number : Half) :
    Statement (.markRead t number) :=
  of_request rfl rfl rfl rfl

theorem reply (t : Stamp) (number : Half) (phrase : Byte) :
    Statement (.reply t number phrase) :=
  of_request rfl rfl rfl rfl

theorem send (t : Stamp) (phrase : Byte) :
    Statement (.send t phrase) :=
  of_request rfl rfl rfl rfl

theorem emergencyRequest (t : Stamp) :
    Statement (.emergencyRequest t) :=
  of_request rfl rfl rfl rfl

theorem cancel (t : Stamp) :
    Statement (.cancel t) :=
  of_request rfl rfl rfl rfl

theorem noticeMask (t : Stamp) (enables : Half) :
    Statement (.noticeMask t enables) :=
  of_request rfl rfl rfl rfl

theorem unknownRequest (t : Stamp) (kind : Byte) :
    Statement (.unknownRequest t kind) :=
  of_other rfl

theorem frameRefused (t : Stamp) (fault : FrameFault) :
    Statement (.frameRefused t fault) :=
  of_other rfl

theorem assemblyTimeout (t : Stamp) :
    Statement (.assemblyTimeout t) :=
  of_other rfl

theorem frameSent (t : Stamp) :
    Statement (.frameSent t) :=
  of_other rfl

theorem wheelPulse (t : Stamp) :
    Statement (.wheelPulse t) :=
  of_other rfl

theorem secondsTick (t : Stamp) :
    Statement (.secondsTick t) :=
  of_other rfl

theorem messageExpiry (t : Stamp) (number : Half) :
    Statement (.messageExpiry t number) :=
  of_other rfl

theorem emergPress (t : Stamp) :
    Statement (.emergPress t) :=
  of_other rfl

theorem covertPress (t : Stamp) :
    Statement (.covertPress t) :=
  of_other rfl

theorem graceExpiry (t : Stamp) :
    Statement (.graceExpiry t) :=
  of_other rfl

theorem beaconDue (t : Stamp) :
    Statement (.beaconDue t) :=
  of_other rfl

theorem powerOn : Statement .powerOn :=
  of_other rfl

theorem vbakFall : Statement .vbakFall :=
  of_other rfl

theorem arxdByteReceived (t : Stamp) (byte : Byte) :
    Statement (.arxdByteReceived t byte) :=
  of_other rfl

theorem cabPortByteReceived (t : Stamp) (calen : Bool) (byte : Byte) :
    Statement (.cabPortByteReceived t calen byte) :=
  of_other rfl

theorem lossOfMainPower : Statement .lossOfMainPower :=
  of_other rfl

end Sys2Proof.Laws.RequestKinds
end

