-- ==== Sys2Proof/Tests/Slice0.lean ====
section
/-!
SUPPORT. Tests: the checks of WellFormed, the worked figures of the spec, and for every statement with
hypotheses a state and operands that meet them, clause by clause.
-/

namespace Sys2Proof.Tests

open Sys2Proof.Machine

/-! ## Sample states: the cab of section 1.10, the tariff set of section 7.16 -/

/-- The ADDRESS table of section 1.10. -/
def addressTable : Versioned AddressRecord :=
  { version := 1, table := { fleet := 312, cab := 1234, attributes := 0x12, groups := [17, 40] } }

/-- Two cells, and the directory entries of zones 37 and 52. -/
def zoneMap : Versioned Memory :=
  { version := 2
    table :=
      [(5, 37), (6, 52), (4095, 37), (4384, 36), (4385, 38), (4386, 52), (4387, 0), (4388, 0), (4389, 0),
        (4390, 1), (4391, 1), (4504, 37), (4505, 0), (4506, 0), (4507, 0), (4508, 0), (4509, 0), (4510, 2),
        (4511, 0)] }

/-- Two channels: site 3, and one where any site may be heard. -/
def channelTable : Versioned (List Channel) :=
  { version := 3
    table := [{ number := 40, site := some 3, role := .home }, { number := 41, site := none, role := .alternate }] }

/-- Tariffs 1 and 2 of section 7.16. -/
def tariff1 : Tariff :=
  { flagFall := 350, drop := 20, distance := 150, time := 30, firstStep := 10, mode := .single }

def tariff2 : Tariff :=
  { flagFall := 350, drop := 25, distance := 150, time := 24, firstStep := 10, mode := .single }

/-- The tariff set of section 7.16; the resume grace is 5 s. -/
def tariffSet : TariffSet :=
  { tariffs := [tariff1, tariff2]
    bands := [{ days := 127, start := 1380, tariff := 2 }, { days := 127, start := 360, tariff := 1 }]
    extras := List.replicate 8 { amount := 100, maximum := 2 }
    surcharges := [150, 0, 0], grace := 5, effective := none }

def bank : Bank := { version := 4, set := tariffSet }

def calibration : Calibration := { version := 2, k := 4096, vmax := 70 }

/-- The cab after reset with its tables, in zone 37, LOCKED on site 3 and VACANT on shift 8, with nothing
leaving on the cab port. -/
def cab : State :=
  { State.reset with
    link := { Link.reset with mode := .locked, lockedSite := some 3, silence := .running 30000 }
    zone := { cell := some { row := 0, col := 5 }, stale := false, zone := 37 }
    meter := { Meter.reset with mode := .vacant, active := some bank, calibration := some calibration }
    trips :=
      { Trips.reset with current := some (ShiftRecord.new 8 77 none), lastShift := 8 }
    dcu :=
      { Dcu.reset with
        address := some addressTable, zoneMap := some zoneMap, channels := some channelTable
        clock := some { day := 100, dayOfWeek := 1, second := 82799 } }
    cab := CabPort.reset }

/-- A trip under tariff 1 after its first tick. -/
def trip : Trip :=
  { job := none, shift := 8, start := none, tariff := 1, firstTariff := 1, lastTariff := 1
    progress := 0, threshold := .first, drops := 0, fare := 350, extras := 0
    extrasCounts := [0, 0, 0, 0, 0, 0, 0, 0], surcharge := 150, price := none, account := none
    seconds := 0, metres := 0, part := false, stopStamp := none
    limit := false, clamp := false, resumed := false }

/-- The cab with the meter in a state, the trip in progress and metres of the second. -/
def metered (mode : MeterMode) (p : Option Trip) (m : Nat) : State :=
  cab.setMeter { cab.meter with mode := mode, trip := p, m := m }

/-- The cab with an uplink queue and a scheduler state. -/
def queued (queue : List Entry) (sched : Sched) : State :=
  cab.setUls { cab.uls with queue := queue, sched := sched }

/-- A queue entry with its default level and attempt limit. -/
def entry (kind : UplinkKind) (level join : Nat) (mark : EntryMark) : Entry :=
  { kind := kind, level := level, attempts := 0, join := join, body := [1, 2], bid := none, mark := mark }

/-- A BID for offer 9 with its slot from 1,000 to 1,040. -/
def bid (mark : EntryMark) : Entry :=
  { kind := .bid, level := 6, attempts := 0, join := 5, body := [0, 9, 0, 37, 3, 0]
    bid := some { offer := 9, release := 1000, deadline := 1040, held := false }, mark := mark }

/-- A transmission that ends at 100. -/
def tx (item : TxItem) : Transmission := { item := item, ends := 100, bytes := [] }

/-- The bytes of a downlink for ALL from site 3. -/
def down (kind : Nat) (body : List Byte) : List Byte :=
  telegramBytes
    { fleet := 312, addressKind := 3, uplink := false, address := 0, site := 3, kind := kind, length := 0 } body

/-- What its owner gets. -/
def told (kind : DownKind) (body : List Byte) : Telegram :=
  { fleet := 312, addressKind := 3, address := 0, site := 3, kind := kind, body := body, cls := .all }

/-- The telegram the part hears, computed. -/
def heard (s : State) (rx : List Byte) : Option Telegram :=
  match s.closing rx with
  | none => none
  | some d =>
    if s.acceptanceFault d = none then
      match s.fate (Header.read d.bytes) d.body with
      | .handed g => some g
      | .dropped _ => none
    else none

theorem hears_of_heard {s : State} {rx : List Byte} {g : Telegram} (h : heard s rx = some g) :
    s.hears rx g := by
  unfold heard at h
  split at h
  · cases h
  · rename_i d hd
    split at h
    · rename_i ha
      split at h
      · rename_i g' hg
        exact ⟨d, hd, ha, by simpa using (Option.some.inj h) ▸ hg⟩
      · cases h
    · cases h

/-- The state after an outcome; the reset state where there is none. -/
def after : Host.Outcome State Fault Refusal → State
  | .next s => s
  | .fault _ => State.reset
  | .refused _ => State.reset

theorem cab_takes : cab.takes := by unfold State.takes; decide

/-! ## WellFormed -/

theorem test_wellFormed_refuses :
    (Instr.loadData 0 true (.cab { offset := 0, data := [] })).wellFormed = false
      ∧ (Instr.loadData 0 true (.cab { offset := 0, data := List.replicate 63 0 })).wellFormed = false
      ∧ (Instr.unknownRequest 0 0x01).wellFormed = false ∧ (Instr.unknownRequest 0 0x16).wellFormed = false
      ∧ (Instr.frameRefused 0 (.lengthOver 64)).wellFormed = false
      ∧ (Instr.frameRefused 0 (.bodyLength 0x17)).wellFormed = false := by decide

theorem test_wellFormed_admits :
    (Instr.loadData 0 true (.cab { offset := 0, data := List.replicate 62 0 })).wellFormed = true
      ∧ (Instr.unknownRequest 0 0x17).wellFormed = true
      ∧ (Instr.frameRefused 0 (.lengthOver 65)).wellFormed = true
      ∧ (Instr.frameRefused 0 (.bodyLength 0x16)).wellFormed = true := by decide

/-! ## The spec's own figures -/

/-- R4: the nine characters "123456789" give 0x29B1. -/
theorem test_crc :
    crc [0x31, 0x32, 0x33, 0x34, 0x35, 0x36, 0x37, 0x38, 0x39] = 0x29B1 := by decide +kernel

/-- Section 3.11: five draws from the seed 1,234. -/
theorem test_draws :
    nextRng 1234 = 13267 ∧ nextRng 13267 = 12584 ∧ nextRng 12584 = 55393 ∧ nextRng 55393 = 12366
      ∧ nextRng 12366 = 7167 ∧ drawValue 13267 = 51 ∧ drawValue 12584 = 49 ∧ drawValue 55393 = 216
      ∧ drawValue 12366 = 48 ∧ drawValue 7167 = 27 := by decide

/-- Section 3.12: the air times of the five items. -/
theorem test_airTimes :
    Machine.airTime 4800 6 = 34 ∧ Machine.airTime 4800 10 = 40 ∧ Machine.airTime 4800 8 = 37
      ∧ Machine.airTime 4800 30 = 74 ∧ Machine.airTime 4800 60 = 124 := by decide

/-- Section 1.10: classes of the deliveries 5 to 11, read from the address kind and address. -/
theorem test_matchClass :
    let h := fun kind address =>
      { fleet := 312, addressKind := kind, uplink := false, address := address, site := 3, kind := 0x10,
        length := 0 : Header }
    cab.matchClass (h 0 1301) = none ∧ cab.matchClass (h 2 52) = some .neighbour
      ∧ cab.matchClass (h 2 37) = some .zone ∧ cab.matchClass (h 3 0) = some .all
      ∧ cab.matchClass (h 0 1234) = some .cab ∧ cab.matchClass (h 1 40) = some .group
      ∧ cab.matchClass (h 1 41) = none ∧ cab.matchClass (h 0 0) = none := by decide

/-- Section 7.17: pulse 4 takes out the first metre and leaves 904. -/
theorem test_pulse :
    let after := fun r n => (Nat.repeat Meter.pulse n { cab.meter with residue := r })
    (after 1000 4).residue = 904 ∧ (after 1000 4).m = 1 ∧ (after 1000 61).residue = 560
      ∧ (after 1000 61).m = 15 := by decide +kernel

/-- Section 7.16: contributions at 12 m/s standing and moving, and the tariffs the bands select. -/
theorem test_tariffs :
    tariff1.contribution 0 = 150 ∧ tariff1.contribution 12 = 360 ∧ tariff1.contribution 15 = 450
      ∧ tariff2.contribution 6 = 150 ∧ tariff1.threshold .first = 45000 ∧ tariff2.threshold .regular = 3600
      ∧ tariffSet.selectAt 1620 = 2 ∧ tariffSet.selectAt 359 = 2 ∧ tariffSet.selectAt 360 = 1
      ∧ tariffSet.selectAt 1380 = 2 ∧ tariffSet.selectAt 1379 = 1 := by decide

/-- Section 7.16: the tick at 23:00:00 brings P from 2,250 to 2,700, and tariff 2 rescales it to 2,160. -/
theorem test_tick_changes_tariff :
    let p := { trip with progress := 2250, threshold := .regular, drops := 2, fare := 390 }
    (after (exec (.secondsTick 5) (metered .hired (some p) 15))).meter.trip.map
        (fun p => (p.progress, p.tariff, p.fare, p.seconds, p.metres)) = some (2160, 2, 390, 1, 15) := by
  decide +kernel

/-- Section 3.12: a choice at 100,000 takes the JOB STATUS, and the next one the DRIVER MESSAGE. -/
theorem test_choice :
    let q := [entry .statusReply 1 98500 .waiting, entry .jobStatus 4 99200 .waiting,
      entry .driverMessage 3 99600 .waiting]
    (queued q .idle).choose.uls.queue.map Entry.isCandidate = [false, true, false]
      ∧ (queued (q.eraseIdx 1) .idle).choose.uls.queue.map Entry.isCandidate = [false, true] := by
  decide +kernel

/-- Section 12.7, steps 5 and 6: a length byte 90 is answered FRAME with kind 0, and DISCARD ends after
20 ms of silence. -/
theorem test_bad_length :
    let s := after (exec (.cabPortByteReceived 10 false 0x5A)
      (cab.setCab { cab.cab with assembly := .frame [] 9 }))
    s.cab.assembly = .discard 10 ∧ s.cab.sending = some (frameBytes 0x80 [0, 9, 0])
      ∧ (after (exec (.assemblyTimeout 30) s)).cab.assembly = .hunt := by decide +kernel

/-- R201, R202: a byte at the end of the 20 ms finds the part-frame refused with FRAME and kind 0, and, as
0x7E in HUNT, begins a frame. -/
theorem test_late_byte :
    let s := after (exec (.cabPortByteReceived 30 false 0x7E)
      (cab.setCab { cab.cab with assembly := .frame [0, 7] 10 }))
    s.cab.assembly = .frame [] 30 ∧ s.cab.sending = some (frameBytes 0x80 [0, 9, 0]) := by decide +kernel

/-- R133, R201, section 13.4: the 89 bytes of a meter read with a trip leave as 61 and 28, in frames whose
bodies hold 64 and 31 bytes. -/
theorem test_read_meter_in_frames :
    let s := after (exec (.readMeter 5) (metered .hired (some trip) 0))
    let s' := after (exec (.frameSent 5) s)
    s.cab.sending.map List.length = some 68 ∧ (s.cab.sending.getD []).take 6 = [0x7E, 64, 0x80, 13, 0, 0]
      ∧ s'.cab.sending.map List.length = some 35 ∧ (s'.cab.sending.getD []).take 6 = [0x7E, 31, 0x80, 13, 0, 0]
      ∧ s'.cab.waiting = [] := by decide +kernel

/-- Section 12.7, step 2: a STOP with 8 metres brings P from 4,300 to 4,540, and a drop leaves 40. -/
theorem test_stop :
    let p := { trip with progress := 4300, threshold := .regular }
    let s := after (exec (.stop 5) (metered .hired (some p) 8))
    s.meter.mode = .stopped ∧ s.meter.trip.map (fun p => (p.progress, p.fare, p.metres)) = some (40, 370, 8) := by
  decide +kernel

/-- Section 3.12: draw 1 of the seed 1,234 is 51, slot 3 of 8: the BID of the offer at 100,400 is released
at 100,520 and its deadline is 100,560. -/
theorem test_accept :
    let o : OfferEntry :=
      { number := 9, kind := .street, zone := 37, reach := false, required := 0, price := none
        pickupTime := none, summary := { positions := [], truncated := false }, decision := 100400, slot := 40
        window := 8, lapse := 105720, state := .offered }
    let s := (cab.setUls { cab.uls with rng := 1234 }).setOffers { cab.offers with table := [o] }
    ((after (exec (.accept 98000 9) s)).uls.queue.map (fun e => e.bid.map (fun b => (b.release, b.deadline))))
      = [some (100520, 100560)] := by decide +kernel

/-- Section 9.2: 20 codes give 22 positions. -/
theorem test_expansion :
    let book : Memory := (492, 15) :: (List.range 15).map (fun i => (493 + i, 0x41))
    let s := cab.setDcu { cab.dcu with phrases := some { version := 1, table := book } }
    let x := s.expand 40 80 [61, 0, 12, 60, 0, 60, 3, 6, 0, 19, 4, 60, 4, 62, 61, 2, 5, 60, 9, 63]
    x.positions.length = 22 ∧ x.truncated = false
      ∧ x.positions.map (fun p => p.emphasis)
        = List.replicate 16 false ++ List.replicate 4 true ++ List.replicate 2 false
      ∧ (x.positions.drop 16).map (fun p => p.char) = [0x47, 0x41, 0x54, 0x45, 0x3F, 0x3F] := by decide +kernel

/-- Section 11.9, step 3: 32 bytes from offset 40 of a 64-byte image drop 8 and count one. -/
theorem test_loadData :
    let g : Staged := { kind := .operating, version := 5, image := [] }
    let s := after (exec (.loadData 5 true (.cab { offset := 40, data := List.replicate 32 7 }))
      (cab.setDcu { cab.dcu with staging := some g }))
    s.dcu.loadDiscarded = 1
      ∧ s.dcu.staging.map (fun g => (g.image.read 39, g.image.read 63, g.image.read 64)) = some (255, 7, 255) := by
  decide +kernel

/-! ## States that meet the hypotheses of the statements: chapter 1 -/

/-- The cab with a delivery of `n` bytes open. -/
def gathering (n : Nat) : State :=
  cab.setAir { cab.air with rx := some { bytes := List.replicate n 0, size := n, last := 0 } }

theorem witness_AirByteGathered :
    (queued [] (.onAir (tx .beacon))).vdd = true ∧ (queued [] (.onAir (tx .beacon))).ptt = true
      ∧ cab.vdd = true ∧ cab.ptt = false ∧ cab.air.rx = none
      ∧ (gathering 103).ptt = false
      ∧ (gathering 103).air.rx = some { bytes := List.replicate 103 0, size := 103, last := 0 }
      ∧ (gathering 104).ptt = false
      ∧ (gathering 104).air.rx = some { bytes := List.replicate 104 0, size := 104, last := 0 }
      ∧ ((gathering 104).advanceTo 4).now < 0 + 5 ∧ 0 + 5 ≤ ((gathering 104).advanceTo 5).now := by
  decide +kernel

/-- The cab with the bytes of a BAR gathered at 0. -/
def barGathered : State :=
  cab.setAir { cab.air with rx := some { bytes := down 0x58 [], size := 8, last := 0 } }

/-- At 5 ms one delivery is a telegram and another is not, before bytes that come at 9. -/
theorem witness_AirByteGathered_overdue :
    (∀ g, ¬ ((gathering 7).advanceTo (BitVec.ofNat 48 (0 + 5))).hears [] g)
      ∧ (barGathered.advanceTo (BitVec.ofNat 48 (0 + 5))).hears [] (told .bar [])
      ∧ 0 + 5 ≤ (barGathered.advanceTo 9).now
      ∧ (let i := Instr.timeSet 9 (down 2 [])
        i.stamp = some 9 ∧ i.delivery = some (down 2 []) ∧ down 2 [] ≠ []) := by
  refine ⟨?_, hears_of_heard (by decide +kernel), by decide +kernel, by decide +kernel⟩
  rintro g ⟨d, hc, ha, _⟩
  have h : ((gathering 7).advanceTo (BitVec.ofNat 48 (0 + 5))).closing []
      = some { bytes := List.replicate 7 0, size := 7, last := 0 } := by decide +kernel
  rw [h] at hc
  cases hc
  exact absurd ha (by decide +kernel)

/-- The delivery that a telegram command brings whole at 5 ms. -/
def brought (rx : List Byte) : Delivery := Delivery.empty.append rx 5

/-- A telegram with a header of its own choice. -/
def telegram (fleet addressKind : Nat) (uplink : Bool) (address kind : Nat) (body : List Byte) : List Byte :=
  telegramBytes
    { fleet := fleet, addressKind := addressKind, uplink := uplink, address := address, site := 3, kind := kind,
      length := 0 } body

/-- One delivery for each test it fails, at the limits of the size. -/
theorem witness_FailedDeliveryCounted :
    let fails := fun (rx : List Byte) (c : RxCounter) =>
      (cab.advanceTo 5).closing rx = some (brought rx) ∧ cab.acceptanceFault (brought rx) = some c
    cab.vdd = true ∧ fails (List.replicate 7 0) .lengthErrors ∧ fails (List.replicate 105 0) .lengthErrors
      ∧ (brought (List.replicate 104 0)).size = 104 ∧ fails (List.replicate 8 0) .crcErrors
      ∧ fails (let b := [0, 0, 0, 0, 0, 1]; b ++ be 2 (crc b).toNat) .lengthErrors
      ∧ fails (telegram 312 0 true 1 0x90 []) .uplinkHeard
      ∧ fails (telegram 507 3 false 0 0x58 []) .foreignFleet := by decide +kernel

/-- The deliveries 5 to 11 of section 1.10 and a BAR with a body; the last is handed on. -/
theorem witness_UnmatchedDeliveryCounted :
    let takes := fun (s : State) (rx : List Byte) =>
      s.vdd = true ∧ (s.advanceTo 5).closing rx = some (brought rx) ∧ s.acceptanceFault (brought rx) = none
    let barred := cab.setDcu { cab.dcu with barred := true }
    takes cab (telegram 312 0 false 1301 0x20 (List.replicate 6 0))
      ∧ takes cab (telegram 312 3 false 0 0x70 []) ∧ takes cab (telegram 312 3 false 0 0x58 [0])
      ∧ takes cab (telegram 312 2 false 52 0x20 (List.replicate 6 0))
      ∧ takes cab (telegram 312 2 false 37 0x70 []) ∧ takes cab (telegram 312 2 false 99 0x58 [])
      ∧ takes cab (telegram 312 1 false 41 0x58 [])
      ∧ takes barred (telegram 312 1 false 40 0x10 (List.replicate 15 0))
      ∧ takes cab (telegram 312 0 false 1234 0x58 []) := by decide +kernel

theorem witness_ClosedEarsHearNothing :
    let deaf := cab.setDcu { cab.dcu with address := none }
    let barred := cab.setDcu { cab.dcu with barred := true }
    let i := Instr.loadCommit 5 true (.air (down 0x62 [0, 0]))
    deaf.vdd = true ∧ i.stamp = some 5 ∧ i.delivery = some (down 0x62 [0, 0]) ∧ deaf.dcu.address = none
      ∧ barred.vdd = true ∧ i.barFiltered = true ∧ barred.dcu.barred = true ∧ barred.air.rx = none
      ∧ ((barGathered.advanceTo 4).now < 0 + 5 ∧ (Instr.bar 5 []).delivery = some []
        ∧ (Instr.bar 5 []).barFiltered = true) := by decide +kernel

theorem witness_TelegramRoundTrip :
    let h : Header :=
      { fleet := 4095, addressKind := 3, uplink := true, address := 4095, site := 15, kind := 255, length := 0 }
    h.fleet < 4096 ∧ h.addressKind < 4 ∧ h.address < 4096 ∧ h.site < 16 ∧ h.kind < 256
      ∧ (List.replicate 96 (0 : Byte)).length ≤ 96 := by decide

/-! ## Chapter 2 -/

/-- The cab HUNTING on entry 0 or 1, in a phase, with the timers given. -/
def hunting (phase : HuntPhase) (entry : Nat) (settle dwell : Option Nat) : State :=
  cab.setLink
    { cab.link with
      mode := .hunting, phase := phase, entry := entry, lockedSite := none, settle := settle, dwell := dwell
      silence := .off }

theorem witness_SettleExpiryStartsDwell :
    let s := hunting .settling 0 (some 100) none
    s.vdd = true ∧ s.link.mode = .hunting ∧ s.link.settle = some 100 ∧ s.link.phase = .settling
      ∧ 100 ≤ (s.advanceTo 100).now ∧ (s.advanceTo 99).now < 100 := by decide

theorem witness_ReportMovesLink :
    (cab.setLink Link.reset).link.mode = .nochan
      ∧ (hunting .settling 0 none none).link.mode = .hunting
      ∧ (hunting .settling 0 none none).link.phase = .settling ∧ cab.link.mode = .locked
      ∧ (hunting .dwelling 0 none (some 6000)).link.phase = .dwelling
      ∧ (hunting .dwelling 0 none (some 6000)).channels[0]?
          = some { number := 40, site := some 3, role := .home }
      ∧ (hunting .dwelling 1 none (some 6000)).channels[1]?
          = some { number := 41, site := none, role := .alternate }
      ∧ some 3 ≠ (none : Option Nat) ∧ some 3 ≠ some 15 := by decide

/-- DWELLING on site 3 with a clear time of 0, a window of 1 and an uplink that waits. -/
def eager : State :=
  let s := hunting .dwelling 0 none (some 6000)
  (s.setDcu
      { s.dcu with
        operating := some { version := 1, table := { s.op with clear := 0, minWindow := 1, maxWindow := 1 } } }).setUls
    { s.uls with queue := [entry .jobStatus 4 0 .waiting] }

/-- R20, R26: a CLOSING beacon that locks the link takes it out of LOCKED again; the tune word of the next entry
is sent at once, and no transmission has begun. -/
theorem test_closing_while_dwelling :
    let s := after (exec (.siteBeacon 5 (down 1 [1])) eager)
    s.link.mode = .hunting ∧ s.link.entry = 1 ∧ s.link.tunePending = false
      ∧ s.link.tuneWord = some [0xA5, 0, 41] ∧ s.uls.sched = .idle := by decide +kernel

/-- R41: any other telegram that locks the link is followed by the choice. -/
theorem test_lock_then_choice :
    (after (exec (.siteBeacon 5 (down 1 [0])) eager)).ptt = true := by decide +kernel

theorem witness_ExpiryAdvancesHunt :
    let s := hunting .dwelling 1 none (some 100)
    let l := cab.setLink { cab.link with silence := .running 100 }
    s.vdd = true ∧ s.link.mode = .hunting ∧ s.link.dwell = some 100 ∧ 100 ≤ (s.advanceTo 100).now
      ∧ (s.advanceTo 99).now < 100 ∧ l.vdd = true ∧ l.link.mode = .locked ∧ l.link.silence = .running 100
      ∧ 100 ≤ (l.advanceTo 100).now ∧ (l.advanceTo 99).now < 100 := by decide

theorem witness_ClosingSiteIsLeft :
    (cab.advanceTo 5).hears (down 1 [1]) (told .siteBeacon [1])
      ∧ (cab.advanceTo 5).hears (down 1 [0]) (told .siteBeacon [0])
      ∧ ((hunting .settling 0 none none).advanceTo 5).hears (down 1 [1]) (told .siteBeacon [1])
      ∧ cab.vdd = true ∧ ((cab.advanceTo 5).found 3).link.mode = .locked
      ∧ ((cab.advanceTo 5).found 3).link.lockedSite = some 3
      ∧ ((hunting .settling 0 none none).advanceTo 5).link.mode ≠ .locked
      ∧ (eager.advanceTo 5).hears (down 1 [1]) (told .siteBeacon [1])
      ∧ ((eager.advanceTo 5).found 3).link.mode = .locked ∧ ((eager.advanceTo 5).found 3).link.lockedSite = some 3 :=
  ⟨hears_of_heard (by decide +kernel), hears_of_heard (by decide +kernel), hears_of_heard (by decide +kernel),
    by decide +kernel, by decide +kernel, by decide +kernel, by decide +kernel,
    hears_of_heard (by decide +kernel), by decide +kernel, by decide +kernel⟩

/-! ## Chapter 3 -/

/-- The cab with an unreported trip of number 1 closed at 97. -/
def reporting : State :=
  cab.setTrips
    { cab.trips with
      sequence := 2
      log :=
        cab.trips.log.set 1
          (some
            { record :=
                { sequence := 1, job := none, shift := 8, start := none, seconds := 172, metres := 1503
                  firstTariff := 1, lastTariff := 2, drops := 3, fare := 415, extras := 100, surcharge := 150
                  price := none, charged := 665, form := .cash, account := none, limit := false
                  clamp := false, resumed := false, power := false }
              reported := false, closeStamp := 97 }) }

/-- A call: ACTIVE or ACKNOWLEDGED, episode 5, with a beacon due at 90. -/
def calling (state : EmergencyState) (covert : Bool) : State :=
  cab.setEmu
    { cab.emu with
      state := state, covert := covert, episode := 5, beacons := 65535, grace := none, beacon := some 90 }

/-- Only one item takes part. -/
theorem ranks_alone {s : State} {i : Item} (h : s.items = [i]) :
    ∀ (m : Nat) (j : Item), s.items[m]? = some j → s.fitsNow j = true →
      (m < 0 → j.level < i.level ∨ (j.level = i.level ∧ i.join < j.join))
        ∧ (0 < m → j.level < i.level ∨ (j.level = i.level ∧ i.join ≤ j.join)) := by
  intro m j hm _
  have hlt := (List.getElem?_eq_some_iff.mp hm).1
  rw [h] at hlt
  simp at hlt
  omega

theorem witness_AirTimeOfTelegram :
    let s := queued [entry .jobStatus 4 0 .waiting] .idle
    0 < 1200 ∧ s.items = [{ pick := .entry 0, level := 4, join := 0, air := 27 }]
      ∧ reporting.items = [{ pick := .trip, level := 2, join := 97, air := 124 }]
      ∧ ((calling .active false).advanceTo 90).items = [{ pick := .beacon, level := 7, join := 90, air := 55 }]
      ∧ s.bidMayStart (bid .waiting) { offer := 9, release := 1000, deadline := 1034, held := false } = true := by
  decide +kernel

theorem witness_UplinkJoinsQueue :
    let q := List.replicate 11 (entry .jobStatus 4 0 .waiting)
    let lowest := entry .statusReply 1 7 .candidate
    let zone := entry .zoneChange 3 7
    (q.length < 12 ∧ ∀ x ∈ q, x.kind ≠ .zoneChange)
      ∧ (UplinkKind.statusReply.single = false ∧ 12 ≤ (q ++ [lowest]).length
        ∧ ∀ x ∈ q ++ [lowest], x.mark ≠ .onAir → 1 ≤ x.level)
      ∧ ((∀ x ∈ q ++ [lowest], x.kind ≠ .zoneChange) ∧ 12 ≤ (q ++ [lowest]).length ∧ lowest.mark ≠ .onAir
        ∧ lowest.level < (cab.op.params .zoneChange).level ∧ (∀ y ∈ q, y.mark ≠ .onAir → lowest.level ≤ y.level)
        ∧ ∀ y ∈ q, y.mark ≠ .candidate)
      ∧ (let busy := entry .jobStatus 4 0 .candidate :: q.drop 1
        let lowest := entry .statusReply 1 7 .waiting
        12 ≤ (busy ++ [lowest]).length ∧ lowest.mark ≠ .onAir ∧ lowest.mark ≠ .candidate
          ∧ ∀ y ∈ busy, y.mark ≠ .onAir → lowest.level ≤ y.level)
      ∧ (UplinkKind.zoneChange.single = true ∧ (zone .onAir).mark = .onAir ∧ (zone .onAir).kind = .zoneChange
        ∧ (∀ y ∈ q, y.kind ≠ .zoneChange) ∧ (q ++ [zone .onAir]).length ≤ 12)
      ∧ ((zone .waiting).mark ≠ .onAir ∧ ∀ y ∈ [zone .onAir], y.kind = .zoneChange → y.mark = .onAir) := by
  decide

theorem witness_ChoiceTakesFirstRanked :
    let s := queued [entry .jobStatus 4 0 .waiting] .idle
    let i : Item := { pick := .entry 0, level := 4, join := 0, air := 27 }
    (queued [] (.onAir (tx .beacon))).uls.sched ≠ .idle ∧ (hunting .settling 0 none none).link.mode ≠ .locked
      ∧ cab.items = [] ∧ (s.uls.sched = .idle ∧ s.link.mode = .locked ∧ s.items = [i] ∧ s.fitsNow i = true)
      ∧ s.cd = false ∧ s.op.clear ≠ 0
      ∧ reporting.items = [{ pick := .trip, level := 2, join := 97, air := 124 }]
      ∧ ((calling .active false).advanceTo 90).items
          = [{ pick := .beacon, level := 7, join := 90, air := 55 }]
      ∧ (queued [bid .waiting] .idle).uls.fits 1000 = true ∧ (queued [bid .waiting] .idle).uls.fits 1001 = false := by
  decide +kernel

theorem witness_ChoiceTakesFirstRanked_order :
    let s := queued [entry .jobStatus 4 0 .waiting] .idle
    ∀ (m : Nat) (j : Item), s.items[m]? = some j → s.fitsNow j = true →
      (m < 0 → j.level < 4 ∨ (j.level = 4 ∧ 0 < j.join)) ∧ (0 < m → j.level < 4 ∨ (j.level = 4 ∧ 0 ≤ j.join)) :=
  ranks_alone (i := { pick := .entry 0, level := 4, join := 0, air := 27 }) (by decide +kernel)

/-- The cab with a clear time of 0, waiting for CD to fall, and a state of the random generator. -/
def clearless (rng : Nat) : State :=
  let s := queued [] (.clearing .trip none)
  (s.setDcu { s.dcu with operating := some { version := 1, table := { s.op with clear := 0 } } }).setUls
    { s.uls with rng := rng }

theorem witness_CarrierDetectEdges_clearless :
    let r := fun rng => (rng * 25173 + 13849) % 65536 / 256 % (max 4 (min 4 32))
    (clearless 1234).vdd = true ∧ (clearless 1234).uls.sched = .clearing .trip none
      ∧ (clearless 1234).op.clear = 0 ∧ (clearless 1234).op.minWindow = 4 ∧ (clearless 1234).uls.window = 4
      ∧ r 1234 ≠ 0 ∧ r 55393 = 0 := by decide

theorem witness_CarrierDetectEdges :
    let tried := fun kind attempts => { entry kind 4 0 .candidate with attempts := attempts }
    cab.vdd = true ∧ cab.uls.sched = .idle
      ∧ (queued [] (.clearing .trip none)).uls.sched = .clearing .trip none ∧ cab.op.clear ≠ 0
      ∧ (queued [] (.clearing .trip (some 100))).uls.sched = .clearing .trip (some 100)
      ∧ (queued [] (.backoff .trip 100)).uls.sched = .backoff .trip 100
      ∧ (∀ e ∈ [entry .jobStatus 4 0 .waiting], e.mark ≠ .candidate)
      ∧ (tried .shiftReport 9).mark = .candidate ∧ (cab.op.params .shiftReport).limit = 0
      ∧ (tried .jobStatus 7).attempts + 1 ≤ (cab.op.params .jobStatus).limit
      ∧ (cab.op.params .jobStatus).limit ≠ 0
      ∧ (cab.op.params .jobStatus).limit < (tried .jobStatus 8).attempts + 1 := by decide

theorem witness_BackoffFollowsClearTime :
    let s := fun rng => (queued [entry .jobStatus 4 0 .candidate] (.clearing .entry (some 100))).setUls
      { cab.uls with rng := rng, sched := .clearing .entry (some 100) }
    let r := fun rng => (rng * 25173 + 13849) % 65536 / 256 % (max 4 (min 4 32))
    let b := queued [entry .jobStatus 4 0 .candidate, bid .waiting] (.backoff .entry 990)
    (s 1234).vdd = true ∧ (s 1234).uls.sched = .clearing .entry (some 100) ∧ ((s 1234).advanceTo 99).now < 100
      ∧ ((s 1234).setCd true).cd = true ∧ 100 ≤ ((s 1234).advanceTo 100).now ∧ (s 1234).cd = false
      ∧ r 1234 ≠ 0 ∧ r 55393 = 0
      ∧ b.uls.sched = .backoff .entry 990 ∧ (b.advanceTo 989).now < 990 ∧ b.candBytes .entry = some 2
      ∧ 990 ≤ (b.advanceTo 990).now ∧ b.uls.fits (990 + b.airTime 2) = false
      ∧ b.uls.fits (973 + b.airTime 2) = true
      ∧ (queued [] (.backoff .entry 990)).candBytes .entry = none := by decide

theorem witness_TransmissionStarts :
    let q := [entry .statusReply 1 0 .waiting, entry .jobStatus 4 0 .candidate]
    (queued q (.backoff .entry 0)).uls.queue
        = [entry .statusReply 1 0 .waiting] ++ entry .jobStatus 4 0 .candidate :: []
      ∧ (entry .jobStatus 4 0 .candidate).mark = .candidate
      ∧ (∀ x ∈ [entry .statusReply 1 0 .waiting], x.mark ≠ .candidate)
      ∧ reporting.trips.candidate.isSome = true := by decide

/-- An offer of 8 slots from 10,000. -/
def offer (n : Nat) (kind : JobKind) (state : OfferState) (decision : Nat) : OfferEntry :=
  { number := n, kind := kind, zone := 37, reach := false, required := 0, price := none, pickupTime := none
    summary := { positions := [], truncated := false }, decision := decision, slot := 40, window := 8
    lapse := decision + 320 + 5000, state := state }

/-- The cab with an offer table. -/
def offered (table : List OfferEntry) : State := cab.setOffers { cab.offers with table := table }

theorem witness_TransmissionCompletes :
    let s := fun q item => queued q (.onAir (tx item))
    let o := fun state => (s [bid .onAir] .entry).setOffers { cab.offers with table := [offer 9 .street state 10000] }
    (s [] .entry).vdd = true ∧ (s [] .entry).uls.sched = .onAir (tx .entry)
      ∧ ((s [] .entry).advanceTo 99).now < (tx .entry).ends ∧ (tx .entry).ends ≤ ((s [] .entry).advanceTo 100).now
      ∧ (tx .entry).item = .entry ∧ (∀ e ∈ [entry .jobStatus 4 0 .waiting], e.mark ≠ .onAir)
      ∧ (s [entry .jobStatus 4 0 .onAir] .entry).uls.queue = [] ++ entry .jobStatus 4 0 .onAir :: []
      ∧ (entry .jobStatus 4 0 .onAir).bid = none ∧ (bid .onAir).bid.isSome = true ∧ (bid .onAir).mark = .onAir
      ∧ (o .accepted).offers.find 9 = some (offer 9 .street .accepted 10000)
      ∧ (o .bidSent).offers.find 9 = some (offer 9 .street .bidSent 10000)
      ∧ cab.offers.find 9 = none
      ∧ (tx (.trip 1)).item = .trip 1 ∧ (tx .beacon).item = .beacon ∧ cab.emu.inCall = false
      ∧ (calling .active false).emu.inCall = true := by decide

theorem witness_BidTakesItsSlot :
    let s := fun sched => queued [bid .waiting] sched
    let times := fun deadline => { offer := 9, release := 1000, deadline := deadline, held := false : BidTimes }
    (s .idle).vdd = true ∧ (s .idle).uls.queue = [] ++ bid .waiting :: [] ∧ (bid .waiting).bid = some (times 1040)
      ∧ (bid .waiting).mark = .waiting ∧ 1000 ≤ ((s .idle).advanceTo 1000).now
      ∧ ((s .idle).advanceTo 999).now < 1000 ∧ (s .idle).link.mode = .locked ∧ (s .idle).ptt = false
      ∧ (s .idle).cd = false ∧ (times 1034).release + cab.airTime 6 ≤ (times 1034).deadline
      ∧ (times 1033).deadline < (times 1033).release + cab.airTime 6 ∧ (s .idle).uls.sched = .idle
      ∧ (s (.onAir { tx .beacon with ends := 1001 })).ptt = true ∧ ((s .idle).setCd true).cd = true
      ∧ ((s .idle).setLink (hunting .settling 0 none none).link).link.mode ≠ .locked
      ∧ (∀ x ∈ [bid .waiting], ∀ r, x.toCome = some r → 999 < r)
      ∧ 1040 ≤ ((s .idle).advanceTo 1040).now := by
  refine ⟨by decide, by decide, by decide, by decide, by decide, by decide, by decide, by decide, by decide,
    by decide, by decide, by decide, by decide, by decide, by decide, ?_, by decide⟩
  intro x hx r hr
  obtain rfl : x = bid .waiting := by simpa using hx
  have h : some 1000 = some r := hr
  cases h
  decide

/-- The candidate of an access, and a release that finds a completion due. -/
theorem witness_BidTakesItsSlot_access :
    let access := queued [entry .jobStatus 4 0 .candidate, bid .waiting] (.backoff .entry 1010)
    let flying := queued [bid .waiting] (.onAir { tx .beacon with ends := 1000 })
    access.uls.sched.inAccess = true ∧ cab.uls.sched.inAccess = false
      ∧ (∀ x ∈ cab.uls.queue, x.mark ≠ .candidate)
      ∧ access.uls.queue = [] ++ entry .jobStatus 4 0 .candidate :: [bid .waiting]
      ∧ (∀ x ∈ [entry .jobStatus 4 0 .candidate], x.toCome = none)
      ∧ flying.uls.sched = .onAir { tx .beacon with ends := 1000 } ∧ 1000 ≤ (flying.advanceTo 1000).now
      ∧ 0 < flying.op.bitRate
      ∧ exec (.transmissionComplete 1000) flying = .next (after (exec (.transmissionComplete 1000) flying)) := by
  refine ⟨by decide, by decide, by decide, by decide, by decide, by decide, by decide, by decide, rfl⟩

theorem witness_TransmissionNotCutShort :
    let s := queued [] (.onAir (tx .beacon))
    let i := Instr.transmissionComplete 99
    s.uls.sched = .onAir (tx .beacon) ∧ exec i s = .next (after (exec i s)) ∧ i ≠ .powerOn
      ∧ i ≠ .lossOfMainPower ∧ (s.advanceTo 99).now < (tx .beacon).ends :=
  ⟨rfl, rfl, by decide, by decide, by decide⟩

/-- A state whose next step raises CD in an access, during a trip of an open shift. -/
def busy : State :=
  ((metered .hired (some trip) 0).setUls
    { cab.uls with queue := [entry .jobStatus 4 0 .candidate], sched := .clearing .entry (some 100) }).setPending
      [.cdRise 50]

theorem witness_StepKeepsAccessLocked :
    busy.uls.sched.inAccess = true ∧ busy.link.mode = .locked ∧ step busy = .next (after (step busy)) :=
  ⟨by decide, by decide, rfl⟩

/-! ## Chapters 4 to 6 -/

theorem witness_PositionReportMovesZone :
    let zone := fun (row col : Byte) => (zoneMap.table.read (row.toNat * 64 + col.toNat)).toNat
    cab.dcu.zoneMap = some zoneMap ∧ (1 : Byte) ≠ 0 ∧ 63 < (64 : Byte).toNat ∧ (63 : Byte).toNat ≤ 63
      ∧ ¬ zone 63 63 ≠ cab.zone.zone
      ∧ (zone 0 6 ≠ cab.zone.zone ∧ zone 0 6 ≠ 0 ∧ cab.meter.mode = .vacant ∧ cab.dcu.barred = false
        ∧ cab.op.zoneReporting = true) := by decide

/-- The body of an OFFER of zone 37, STREET, 5 s and 1 slot. -/
def offerBody (number required : Byte) : List Byte :=
  [0, number, 0, 37, 5, 1, required, 0, 0, 0, 0, 0, 0, 0, 0]

/-- Five entries: the fifth is OFFERED with the earliest decision deadline. -/
def fiveOffers : List OfferEntry :=
  [offer 1 .street .offered 12000, offer 2 .prebook .accepted 9000, offer 3 .street .bidSent 9000,
    offer 4 .street .offered 11000, offer 5 .prebook .offered 10000]

theorem witness_OfferJoinsTable :
    (cab.advanceTo 5).hears (down 0x10 (offerBody 0 0)) (told .offer (offerBody 0 0))
      ∧ (cab.advanceTo 5).hears (down 0x10 (offerBody 9 4)) (told .offer (offerBody 9 4))
      ∧ (cab.advanceTo 5).hears (down 0x10 (offerBody 9 0x12)) (told .offer (offerBody 9 0x12))
      ∧ ((offered [offer 9 .street .offered 10000]).advanceTo 5).hears (down 0x10 (offerBody 9 0x12))
          (told .offer (offerBody 9 0x12)) :=
  ⟨hears_of_heard (by decide +kernel), hears_of_heard (by decide +kernel), hears_of_heard (by decide +kernel),
    hears_of_heard (by decide +kernel)⟩

theorem witness_OfferJoinsTable_clauses :
    let o := fun number required => OfferBody.read (offerBody number required)
    let full := fiveOffers ++ [offer 6 .street .offered 10000]
    (o 0 0).inRange = false ∧ (o 9 0x12).inRange = true ∧ (o 9 4).required &&& cab.address.attributes ≠ (o 9 4).required
      ∧ (cab.dcu.barred = false ∧ cab.meter.mode ≠ .offShift ∧ cab.emu.overtCall = false
        ∧ (o 9 0x12).required &&& cab.address.attributes = (o 9 0x12).required ∧ cab.zone.zone ≠ 0
        ∧ (o 9 0x12).zone = cab.zone.zone ∧ (told .offer []).cls ≠ .neighbour ∧ cab.jobs.active = none)
      ∧ fiveOffers.length < 6 ∧ full.length = 6 ∧ (∀ x ∈ full, x.number ≠ (o 9 0x12).number)
      ∧ (∀ x ∈ List.replicate 6 (offer 1 .street .accepted 0), x.state ≠ .offered)
      ∧ full = fiveOffers.take 4 ++ offer 5 .prebook .offered 10000 :: [offer 6 .street .offered 10000]
      ∧ (∀ y ∈ fiveOffers.take 4, y.state = .offered → 10000 < y.decision)
      ∧ (∀ y ∈ [offer 6 .street .offered 10000], y.state = .offered → 10000 ≤ y.decision)
      ∧ (∀ y ∈ fiveOffers.take 4 ++ [offer 6 .street .offered 10000], y.number ≠ 5) := by decide

theorem witness_AcceptQueuesBid :
    cab.takes ∧ (offered fiveOffers).takes
      ∧ (cab.offers.find 1 = none
        ∧ (offered fiveOffers).offers.find 1 = some (offer 1 .street .offered 12000)
        ∧ (offered fiveOffers).offers.find 2 = some (offer 2 .prebook .accepted 9000)
        ∧ (offered fiveOffers).offers.find 5 = some (offer 5 .prebook .offered 10000)
        ∧ ((offered fiveOffers).advanceTo 9999).now < 10000 ∧ 10000 ≤ ((offered fiveOffers).advanceTo 10000).now
        ∧ fiveOffers.countP (fun x => x.kind == .street && x.state != .offered) = 1
        ∧ fiveOffers.countP (fun x => x.kind == .prebook && x.state != .offered) = 1
        ∧ (cab.setDcu { cab.dcu with barred := true }).dcu.barred = true
        ∧ (calling .active false).emu.overtCall = true ∧ (calling .active true).emu.covertCall = true) :=
  ⟨cab_takes, ⟨by decide, by decide⟩, by decide⟩

theorem witness_OfferLeavesTable :
    (∀ x ∈ [bid .waiting], x.bidFor 9 = true → x.mark ≠ .candidate)
      ∧ cab.takes ∧ (0 : Half) = 0 ∧ (9 : Half) ≠ 0 ∧ cab.offers.find 9 = none
      ∧ (offered fiveOffers).takes ∧ (offered fiveOffers).offers.find 5 = some (offer 5 .prebook .offered 10000)
      ∧ (offered fiveOffers).offers.find 3 = some (offer 3 .street .bidSent 9000)
      ∧ 10000 ≤ (cab.advanceTo 10000).now ∧ (cab.advanceTo 9999).now < 10000
      ∧ (offer 3 .street .bidSent 9000).lapse ≤ (cab.advanceTo 14320).now
      ∧ (cab.advanceTo 14319).now < (offer 3 .street .bidSent 9000).lapse
      ∧ ((offered fiveOffers).advanceTo 5).hears (down 0x11 [0, 9]) (told .withdraw [0, 9])
      ∧ ((offered fiveOffers).advanceTo 5).hears (down 0x11 [0, 5]) (told .withdraw [0, 5])
      ∧ natAt (told .withdraw [0, 5]).body 0 2 = (5 : Half).toNat :=
  ⟨by decide, cab_takes, by decide, by decide, by decide, ⟨by decide, by decide⟩, by decide, by decide, by decide,
    by decide, by decide, by decide, hears_of_heard (by decide +kernel), hears_of_heard (by decide +kernel),
    by decide⟩

/-- The bodies of an AWARD of offer 1 and an ASSIGN of zone 37, each of STREET job 7. -/
def awardSeven : List Byte := [0, 1, 0, 7] ++ List.replicate 12 0

def assignSeven : List Byte := [0, 7, 0, 37] ++ List.replicate 11 0

theorem witness_AwardAndAssignPlaceJobs_inRange :
    ((offered fiveOffers).advanceTo 5).hears (down 0x12 awardSeven) (told .award awardSeven)
      ∧ (cab.advanceTo 5).hears (down 0x13 assignSeven) (told .assign assignSeven)
      ∧ ((AwardBody.read awardSeven).inRange = true ∧ (AwardBody.read awardSeven).offer = 1
        ∧ (offered fiveOffers).offers.find 1 = some (offer 1 .street .offered 12000)
        ∧ (AssignBody.read assignSeven).inRange = true ∧ (AssignBody.read assignSeven).kind = .street
        ∧ cab.jobs.active = none ∧ cab.meter.mode = .vacant) :=
  ⟨hears_of_heard (by decide +kernel), hears_of_heard (by decide +kernel), by decide +kernel⟩

theorem witness_AwardAndAssignPlaceJobs :
    (cab.advanceTo 5).hears (down 0x12 (List.replicate 16 0)) (told .award (List.replicate 16 0))
      ∧ (cab.advanceTo 5).hears (down 0x13 (List.replicate 15 0)) (told .assign (List.replicate 15 0))
      ∧ cab.vdd = true :=
  ⟨hears_of_heard (by decide +kernel), hears_of_heard (by decide +kernel), by decide⟩

/-- A job that arrived, when it has, at 1,000. -/
def job (n : Nat) (state : JobState) : Job :=
  { number := n, source := .assign, offer := none, kind := .street, zone := 37
    text := { positions := [], truncated := false }, account := none, price := none, pickupTime := none
    state := state, placed := 0, arrived := if state = .assigned then none else some 1000 }

/-- The cab with job 7 ACTIVE and job 8 QUEUED. -/
def booked (state : JobState) : State := cab.setJobs { active := some (job 7 state), queued := [job 8 .assigned] }

theorem booked_takes (state : JobState) : (booked state).takes := by cases state <;> exact ⟨by decide, by decide⟩

theorem witness_JobsArriveAndLeave :
    ((booked .arrived).msgs.store.map (fun x => x.number)).Nodup ∧ (booked .arrived).takes
      ∧ (0 : Half) = 0 ∧ (8 : Half) ≠ 0
      ∧ (∀ j, (booked .assigned).jobs.active = some j → j.number ≠ (8 : Half).toNat)
      ∧ (booked .assigned).jobs.active = some (job 7 .assigned) ∧ (job 7 .assigned).number = (7 : Half).toNat
      ∧ (job 7 .assigned).state = .assigned ∧ (job 7 .onBoard).state ≠ .assigned ∧ (job 7 .arrived).state = .arrived
      ∧ (job 7 .arrived).arrived.getD 0 + 1000 * cab.op.noShowWait ≤ (cab.advanceTo 181000).now
      ∧ (cab.advanceTo 180999).now < (job 7 .arrived).arrived.getD 0 + 1000 * cab.op.noShowWait
      ∧ ((booked .onBoard).advanceTo 5).hears (down 0x14 [0, 7]) (told .jobCancel [0, 7])
      ∧ ((booked .onBoard).advanceTo 5).hears (down 0x14 [0, 8]) (told .jobCancel [0, 8])
      ∧ ((booked .onBoard).advanceTo 5).hears (down 0x14 [0, 9]) (told .jobCancel [0, 9])
      ∧ (booked .onBoard).jobs.queued.find? (fun k => k.number == 8) = some (job 8 .assigned)
      ∧ (booked .onBoard).jobs.holds 9 = false :=
  ⟨by decide, booked_takes _, by decide, by decide,
    by
      intro j hj
      obtain rfl : job 7 .assigned = j := Option.some.inj hj
      decide,
    by decide, by decide, by decide, by decide, by decide, by decide, by decide,
    hears_of_heard (by decide +kernel), hears_of_heard (by decide +kernel), hears_of_heard (by decide +kernel),
    by decide, by decide⟩

/-! ## Chapter 7 -/

theorem metered_takes (mode : MeterMode) (p : Option Trip) (m : Nat) : (metered mode p m).takes :=
  ⟨rfl, by show (0 : Nat) < 4; decide⟩

/-- A trip bound to job 7, STOPPED at 1,000. -/
def stopped : Trip := { trip with stopStamp := some 1000 }

/-- The cab in an emergency state that is no call. -/
def arming : State := cab.setEmu { cab.emu with state := .arming, grace := some 100 }

theorem witness_ShiftOpensAndCloses :
    let off := metered .offShift none 0
    off.takes ∧ (metered .hired (some trip) 0).takes ∧ cab.takes ∧ (0 : Half) = 0 ∧ (65535 : Half) ≠ 0
      ∧ off.meter.mode = .offShift ∧ cab.meter.mode ≠ .offShift ∧ (metered .hired (some trip) 0).meter.mode = .hired
      ∧ (metered .stopped (some stopped) 0).meter.mode = .stopped ∧ cab.meter.mode = .vacant
      ∧ arming.emu.state = .arming ∧ (calling .active false).emu.overtCall = true
      ∧ ((calling .acknowledged true).emu.covertCall = true ∧ (calling .acknowledged true).emu.state ≠ .arming
        ∧ (calling .acknowledged true).emu.overtCall = false)
      ∧ (booked .assigned).jobs.jobs ≠ [] ∧ cab.emu.state = .quiet ∧ cab.jobs.jobs = []
      ∧ cab.trips.current = some (ShiftRecord.new 8 77 none) :=
  ⟨metered_takes _ _ _, metered_takes _ _ _, cab_takes, by decide +kernel⟩

theorem witness_HireStartsTrip :
    let pending := cab.setMeter { cab.meter with pendingBank := some bank, ready := true }
    let bare := cab.setMeter { cab.meter with active := none }
    cab.takes ∧ ((2 : Byte) ≠ 0 ∧ (2 : Byte) ≠ 1) ∧ (metered .offShift none 0).meter.mode = .offShift
      ∧ (metered .hired (some trip) 0).meter.mode = .hired ∧ cab.meter.mode = .vacant
      ∧ (cab.setMeter { cab.meter with calibration := none }).meter.calibration = none
      ∧ (bare.meter.active = none ∧ bare.swapDue = none)
      ∧ (cab.meter.calibration = some calibration ∧ cab.meter.active = some bank ∧ cab.swapDue = none)
      ∧ pending.swapDue = some bank ∧ cab.jobs.bindable = none
      ∧ ((some (job 7 .assigned)).isSome = true ∧ (booked .assigned).jobs.bindable = some (job 7 .assigned)
        ∧ (booked .assigned).meter.calibration = some calibration)
      ∧ ((offered fiveOffers).offers.table.map (fun e => e.number)).Nodup :=
  ⟨cab_takes, by decide +kernel⟩

theorem witness_StopAndResumeTrip :
    let s := metered .stopped (some stopped) 80
    let graceless :=
      s.setMeter { s.meter with active := some { bank with set := { tariffSet with grace := 0 } } }
    (metered .vacant none 0).takes ∧ (metered .offShift none 0).takes ∧ (metered .vacant none 0).meter.mode = .vacant
      ∧ (metered .offShift none 0).meter.mode = .offShift ∧ s.takes ∧ s.meter.calibration = some calibration ∧ s.meter.trip = some stopped ∧ s.meter.mode = .stopped
      ∧ (metered .hired (some trip) 3).takes ∧ (metered .hired (some trip) 3).meter.mode = .hired
      ∧ (metered .hired (some trip) 3).tariff trip.tariff = some tariff1
      ∧ (graceless.meter.active.map (fun b => b.set.grace)).getD 0 = 0
      ∧ (s.meter.active.map (fun b => b.set.grace)).getD 0 = 5
      ∧ stopped.stopStamp.getD 0 + 1000 * 5 ≤ (s.advanceTo 6000).now
      ∧ (s.advanceTo 5999).now < stopped.stopStamp.getD 0 + 1000 * 5 :=
  ⟨metered_takes _ _ _, metered_takes _ _ _, rfl, rfl, metered_takes _ _ _, rfl, rfl, rfl, metered_takes _ _ _,
    by decide +kernel⟩

theorem witness_DropsTakenFromProgress :
    let s := fun (p : Trip) => metered .hired (some p) 0
    let p := { trip with progress := 45000, fare := 999999 }
    (s p).meter.trip = some p ∧ (s p).tariff p.tariff = some tariff1 ∧ 0 < tariff1.distance * tariff1.time
      ∧ 1 ≤ tariff1.firstStep ∧ p.fare ≤ 999999 ∧ p.threshold = .first
      ∧ p.drops + (1 + (p.progress - 45000) / 4500) ≤ 4294967295 ∧ ¬ p.progress < 10 * (150 * 30)
      ∧ 10 * (150 * 30) ≤ p.progress ∧ { p with progress := 44999 }.progress < 10 * (150 * 30) := by decide

theorem witness_ExtraAndPay :
    let p := fun n => { stopped with extrasCounts := [n, 0, 0, 0, 0, 0, 0, 0], account := some 1 }
    let s := fun n => metered .stopped (some (p n)) 0
    let rate := fun n => ((s n).meter.active.bind (fun k => k.set.extras[0]?)).getD { amount := 0, maximum := 0 }
    (s 0).takes ∧ (s 0).meter.trip = some (p 0) ∧ 7 < (8 : Byte).toNat ∧ (7 : Byte).toNat ≤ 7
      ∧ (metered .vacant none 0).meter.mode = .vacant ∧ (metered .offShift none 0).meter.mode = .offShift
      ∧ (s 0).meter.mode = .stopped
      ∧ (metered .hired (some trip) 0).meter.mode = .hired ∧ (rate 2).maximum ≤ 2 ∧ 1 < (rate 1).maximum
      ∧ ((3 : Byte) ≠ 0 ∧ (3 : Byte) ≠ 1 ∧ (3 : Byte) ≠ 2) ∧ stopped.account = none ∧ (p 0).account ≠ none :=
  ⟨metered_takes _ _ _, rfl, by decide⟩

theorem witness_PulsesAndSeconds :
    let away := { cab with vdd := false }
    let plain := cab.setMeter { cab.meter with calibration := none }
    away.vdd = false ∧ (plain.vdd = true ∧ plain.meter.calibration = none ∧ plain.meter.m = 0
        ∧ plain.meter.mode ≠ .hired ∧ plain.trips.odometer ≤ 4294967295
        ∧ plain.trips.current = some (ShiftRecord.new 8 77 none)
        ∧ (ShiftRecord.new 8 77 none).vacantMetres ≤ 4294967295)
      ∧ (cab.vdd = true ∧ cab.meter.calibration = some calibration)
      ∧ (metered .offShift none 70).meter.mode = .offShift ∧ (metered .offShift none 70).meter.trip = none
      ∧ (metered .vacant none 71).meter.mode = .vacant ∧ (metered .stopped (some stopped) 71).meter.mode = .stopped
      ∧ (metered .hired (some trip) 71).meter.mode = .hired
      ∧ (metered .hired (some trip) 71).meter.trip = some trip
      ∧ (metered .hired (some trip) 71).tariff trip.tariff = some tariff1 := by decide +kernel

/-- Monday 23:00 is itself a point of the first band. -/
theorem witness_BandChangesTariff :
    let first : Band := { days := 127, start := 1380, tariff := 2 }
    { tariffSet with bands := [] }.bands = []
      ∧ (tariffSet.bands = [] ++ first :: [{ days := 127, start := 360, tariff := 1 }] ∧ 1380 < 10080
        ∧ (∀ x ∈ tariffSet.bands, x.start < 1440) ∧ (0 : Nat) < 7 ∧ first.days.getLsbD 0 = true ∧ (0 : Nat) < 10080
        ∧ (0 * 1440 + first.start + 0) % 10080 = 1380)
      ∧ ((metered .hired (some trip) 0).meter.trip = some trip
        ∧ (metered .hired (some trip) 0).meter.active = some bank ∧ cab.meter.mode ≠ .hired
        ∧ bank.set.selectAt (1 * 1440 + 82799 / 60) = trip.tariff
        ∧ bank.set.selectAt (1 * 1440 + 82800 / 60) ≠ trip.tariff
        ∧ (metered .hired (some trip) 0).tariff 1 = some tariff1
        ∧ (metered .hired (some trip) 0).tariff 2 = some tariff2) := by decide

theorem witness_BandChangesTariff_least :
    let bands : List Band := [{ days := 127, start := 1380, tariff := 2 }, { days := 127, start := 360, tariff := 1 }]
    (∀ (x : Band) (day' d' : Nat), x ∈ ([] : List Band) → day' < 7 → x.days.getLsbD day' = true → d' < 10080 →
        (day' * 1440 + x.start + d') % 10080 = 1380 → 0 < d')
      ∧ ∀ (x : Band) (day' d' : Nat), x ∈ bands → day' < 7 → x.days.getLsbD day' = true → d' < 10080 →
        (day' * 1440 + x.start + d') % 10080 = 1380 → 0 ≤ d' :=
  ⟨fun _ _ _ h => (List.not_mem_nil h).elim, fun _ _ d' _ _ _ _ _ => Nat.zero_le d'⟩

theorem witness_ChargedAmountNeverFalls :
    let s := metered .hired (some { trip with progress := 44999 }) 0
    let i := Instr.secondsTick 5
    s.meter.mode = .hired ∧ s.meter.trip = some { trip with progress := 44999 }
      ∧ exec i s = .next (after (exec i s)) ∧ (after (exec i s)).meter.trip.isSome = true :=
  ⟨rfl, rfl, rfl, by decide +kernel⟩

/-! ## Chapters 8 to 10 -/

theorem witness_RecallAndTotals :
    let s := reporting
    (s.advanceTo 5).hears (down 0x40 [0, 0, 0, 0]) (told .tripRecall [0, 0, 0, 0])
      ∧ (s.advanceTo 5).hears (down 0x40 [0, 0, 0, 1]) (told .tripRecall [0, 0, 0, 1])
      ∧ (s.advanceTo 5).hears (down 0x40 [0, 0, 0, 17]) (told .tripRecall [0, 0, 0, 17])
      ∧ (s.advanceTo 5).hears (down 0x41 [0]) (told .totalsQuery [0])
      ∧ (s.advanceTo 5).hears (down 0x41 [1]) (told .totalsQuery [1])
      ∧ (s.advanceTo 5).hears (down 0x41 [2]) (told .totalsQuery [2])
      ∧ (((s.advanceTo 5).found 3).trips.log[1 % 16]?.map (fun h => h.map (fun h => h.record.sequence)) = some (some 1)
        ∧ (1 : Nat) ≠ 17 ∧ ((s.advanceTo 5).found 3).trips.current.isSome = true
        ∧ ((s.advanceTo 5).found 3).trips.previous = none) :=
  ⟨hears_of_heard (by decide +kernel), hears_of_heard (by decide +kernel), hears_of_heard (by decide +kernel),
    hears_of_heard (by decide +kernel), hears_of_heard (by decide +kernel), hears_of_heard (by decide +kernel),
    by decide +kernel⟩

/-- A message with reply group 0. -/
def message (n : Nat) (cls : MsgClass) (state : MsgState) : Message :=
  { number := n, cls := cls, job := none, group := some 0, state := state, received := none, life := none
    text := { positions := [], truncated := false } }

/-- The cab with a message store. -/
def storing (store : List Message) : State := cab.setMsgs { cab.msgs with store := store }

theorem witness_MessageTaken :
    let body := fun (n flags : Byte) => [0, n, flags, 0, 0, 0]
    let full := List.replicate 14 (message 1 .normal .unread) ++ message 3 .normal .read :: [message 2 .urgent .read]
    let rank := fun (y : Message) => if y.state ≠ .unread then 0 else if y.cls ≠ .urgent then 1 else 2
    (cab.advanceTo 5).hears (down 0x20 (body 9 0xC0)) (told .message (body 9 0xC0))
      ∧ (cab.advanceTo 5).hears (down 0x20 (body 0 0)) (told .message (body 0 0))
      ∧ ((storing full).advanceTo 5).hears (down 0x20 (body 9 0)) (told .message (body 9 0))
      ∧ ((MessageBody.read (body 9 0xC0)).cls = none ∧ (MessageBody.read (body 0 0)).inRange = false
        ∧ (MessageBody.read (body 9 0)).cls = some .normal ∧ (MessageBody.read (body 9 0)).inRange = true
        ∧ (∃ x ∈ [message 9 .normal .unread], x.number = 9) ∧ (∀ x ∈ full, x.number ≠ 9)
        ∧ (full.take 15).length < 16 ∧ 16 ≤ full.length
        ∧ (∀ z ∈ List.replicate 14 (message 1 .normal .unread), rank (message 3 .normal .read) < rank z)
        ∧ (∀ z ∈ [message 2 .urgent .read], rank (message 3 .normal .read) ≤ rank z)
        ∧ ∀ z ∈ List.replicate 14 (message 1 .normal .unread) ++ [message 2 .urgent .read], z.number ≠ 3) :=
  ⟨hears_of_heard (by decide +kernel), hears_of_heard (by decide +kernel), hears_of_heard (by decide +kernel),
    by decide +kernel⟩

/-- A JOBNOTE of job 7. -/
def note (n : Nat) : Message := { message n .jobnote .unread with job := some 7 }

theorem witness_JobsArriveAndLeave_notes :
    let store := [message 1 .normal .unread, note 2, note 3]
    (∀ x ∈ [message 1 .normal .unread], ¬ (x.cls = .jobnote ∧ x.job = some (7 : Half).toNat))
      ∧ (store.map (fun x => x.number)).Nodup ∧ store = [message 1 .normal .unread] ++ note 2 :: [note 3]
      ∧ (note 2).cls = .jobnote ∧ (note 2).job = some (7 : Half).toNat := by decide

theorem witness_MessageLifetimes :
    let living := fun minutes seconds =>
      { message 9 .normal .unread with life := some { minutes := minutes, seconds := seconds } }
    let s := storing [living 1 59, message 2 .normal .read]
    (s.msgs.store.map (fun x => x.number)).Nodup ∧ s.vdd = true ∧ s.msgs.find 3 = none
      ∧ s.msgs.find 2 = some (message 2 .normal .read) ∧ (message 2 .normal .read).life = none
      ∧ s.msgs.find 9 = some (living 1 59) ∧ (storing [living 1 58]).msgs.find 9 = some (living 1 58)
      ∧ (storing [living 2 0]).msgs.find 9 = some (living 2 0)
      ∧ (storing [living 0 0]).msgs.find 9 = some (living 0 0) := by decide

/-- A phrase book whose reply group 0 holds phrase 96 alone. -/
def phraseBook : Versioned Memory := { version := 5, table := [(5248, 96), (5249, 0)] }

theorem witness_MarkReadReplySend :
    let s := storing [message 9 .normal .unread, message 2 .normal .replied]
    let p := s.setDcu { s.dcu with phrases := some phraseBook }
    s.takes ∧ p.takes ∧ (0 : Half) = 0 ∧ (9 : Half) ≠ 0 ∧ s.msgs.find 8 = none
      ∧ s.msgs.find 9 = some (message 9 .normal .unread) ∧ s.msgs.find 2 = some (message 2 .normal .replied)
      ∧ (message 2 .normal .replied).state ≠ .unread
      ∧ ((95 : Byte).toNat < 96 ∧ 127 < (128 : Byte).toNat ∧ 96 ≤ (96 : Byte).toNat ∧ (127 : Byte).toNat ≤ 127)
      ∧ (message 9 .normal .unread).group = some 0 ∧ s.dcu.phrases = none ∧ p.dcu.phrases = some phraseBook
      ∧ 96 ∈ groupMembers phraseBook.table 0 ∧ 127 ∉ groupMembers phraseBook.table 0 :=
  ⟨⟨by decide, by decide⟩, ⟨by decide, by decide⟩, by decide⟩

theorem witness_TextExpansion :
    (∀ c ∈ List.replicate 40 59, c < 60) ∧ (List.replicate 40 59).length ≤ 40 ∧ (4 : Nat) ≠ 0 ∧ (59 : Nat) < 60
      ∧ (List.replicate 80 { char := 0x41, emphasis := false : DisplayPos }).length ≤ 80 := by decide +kernel

theorem witness_EmergencyInputs :
    arming.takes ∧ cab.takes ∧ (calling .active false).takes ∧ (calling .acknowledged true).takes
      ∧ (cab.vdd = true ∧ cab.emu.state = .quiet ∧ arming.emu.state = .arming ∧ arming.emu.grace = some 100
        ∧ 100 ≤ (arming.advanceTo 100).now ∧ ¬ 100 ≤ (arming.advanceTo 99).now
        ∧ (calling .active false).emu.state = .active ∧ (calling .acknowledged true).emu.state = .acknowledged) :=
  ⟨⟨by decide, by decide⟩, cab_takes, ⟨by decide, by decide⟩, ⟨by decide, by decide⟩, by decide⟩

theorem witness_EmergencyTelegramsBeacon :
    let s := calling .active false
    let accessed := s.setUls { s.uls with sched := .clearing .beacon none }
    (s.advanceTo 5).hears (down 0x30 [0, 0]) (told .emergencyAck [0, 0])
      ∧ (s.advanceTo 5).hears (down 0x30 [0, 5]) (told .emergencyAck [0, 5])
      ∧ (s.advanceTo 5).hears (down 0x30 [0, 6]) (told .emergencyAck [0, 6])
      ∧ (accessed.advanceTo 5).hears (down 0x31 [0, 5]) (told .standDown [0, 5])
      ∧ (cab.advanceTo 5).hears (down 0x31 [0, 0]) (told .standDown [0, 0])
      ∧ (s.emu.beacon = some 90 ∧ cab.emu.beacon = none ∧ s.emu.episode = 5 ∧ s.emu.state = .active
        ∧ cab.emu.state = .quiet ∧ ((accessed.advanceTo 5).found 3).uls.sched = .clearing .beacon none) :=
  ⟨hears_of_heard (by decide +kernel), hears_of_heard (by decide +kernel), hears_of_heard (by decide +kernel),
    hears_of_heard (by decide +kernel), hears_of_heard (by decide +kernel), by decide⟩

/-! ## Chapter 11 -/

theorem witness_ClockBarRestart :
    let barred := cab.setDcu { cab.dcu with barred := true }
    let access := queued [entry .jobStatus 4 0 .candidate] (.backoff .entry 1000)
    (access.advanceTo 5).hears (down 0x5A []) (told .restart [])
      ∧ (((access.advanceTo 5).found 3).uls.sched.inAccess = true
        ∧ ((access.advanceTo 5).found 3).uls.queue = [entry .jobStatus 4 0 .candidate]
        ∧ (queued [entry .jobStatus 4 0 .waiting] .idle).uls.sched.inAccess = false)
      ∧ (cab.advanceTo 5).hears (down 2 [0, 0, 6, 1, 0x51, 0x7F]) (told .timeSet [0, 0, 6, 1, 0x51, 0x7F])
      ∧ (cab.advanceTo 5).hears (down 2 [0, 0, 6, 1, 0x51, 0x80]) (told .timeSet [0, 0, 6, 1, 0x51, 0x80])
      ∧ (cab.advanceTo 5).hears (down 2 [0, 0, 7, 0, 0, 0]) (told .timeSet [0, 0, 7, 0, 0, 0])
      ∧ (cab.advanceTo 5).hears (down 0x58 []) (told .bar [])
      ∧ (cab.advanceTo 5).hears (down 0x59 []) (told .reinstate [])
      ∧ (barred.advanceTo 5).hears (down 0x59 []) (told .reinstate [])
      ∧ (cab.advanceTo 5).hears (down 0x5A []) (told .restart [])
      ∧ (cab.vdd = true ∧ natAt [0, 0, 6, 1, 0x51, 0x7F] 3 3 = 86399 ∧ natAt [0, 0, 6, 1, 0x51, 0x80] 3 3 = 86400
        ∧ cab.dcu.barred = false ∧ barred.dcu.barred = true ∧ cab.uls.queue = []) :=
  ⟨hears_of_heard (by decide +kernel), by decide +kernel, hears_of_heard (by decide +kernel), hears_of_heard (by decide +kernel), hears_of_heard (by decide +kernel),
    hears_of_heard (by decide +kernel), hears_of_heard (by decide +kernel), hears_of_heard (by decide +kernel),
    hears_of_heard (by decide +kernel), by decide⟩

theorem witness_StatusQueriesAnswered :
    ∀ code ∈ [0, 1, 2, 3, 4],
      (cab.advanceTo 5).hears (down 0x50 [code, 1]) (told .statusQuery [code, 1])
        ∧ natAt (told .statusQuery [code, 1]).body 0 1 = code.toNat := by
  intro code h
  simp only [List.mem_cons, List.not_mem_nil, or_false] at h
  rcases h with rfl | rfl | rfl | rfl | rfl <;>
    exact ⟨hears_of_heard (by decide +kernel), by decide⟩

/-- A staged load of an image. -/
def staged (kind : TableKind) (image : Memory) : Staged := { kind := kind, version := 3, image := image }

/-- The cab with a staged load. -/
def loading (g : Staged) : State := cab.setDcu { cab.dcu with staging := some g }

/-- The calibration image of section 11.9, step 8: K 4,120 and vmax 70. -/
def calibrationImage : Memory := [(0, 0x10), (1, 0x18), (2, 70)]

theorem witness_LoadOpenAndData :
    let open' := fun (kind : Byte) (calen : Bool) =>
      ((cab.advanceTo 5).setCalen calen).hears (down 0x60 [kind, 0, 5]) (told .loadOpen [kind, 0, 5])
    Memory.wf calibrationImage = true ∧ open' 0 false ∧ open' 7 false ∧ open' 7 true ∧ open' 1 false
      ∧ ((cab.advanceTo 5).setCalen false).hears (down 0x61 [0, 7, 1, 2]) (told .loadData [0, 7, 1, 2])
      ∧ (((loading (staged .calibration [])).advanceTo 5).setCalen false).hears (down 0x61 [0, 7, 1, 2])
          (told .loadData [0, 7, 1, 2])
      ∧ cab.takes ∧ (loading (staged .calibration [])).takes
      ∧ (TableKind.ofCode 0 = none ∧ TableKind.ofCode 8 = none ∧ TableKind.ofCode 7 = some .calibration
        ∧ TableKind.ofCode 1 = some .address ∧ (loadDataArg [0, 7, 1, 2]).data ≠ [] ∧ cab.dcu.staging = none
        ∧ (loading (staged .calibration [])).dcu.staging = some (staged .calibration [])) :=
  ⟨by decide, hears_of_heard (by decide +kernel), hears_of_heard (by decide +kernel),
    hears_of_heard (by decide +kernel), hears_of_heard (by decide +kernel), hears_of_heard (by decide +kernel),
    hears_of_heard (by decide +kernel), cab_takes, ⟨by decide, by decide⟩, by decide⟩

theorem witness_LoadCommitOutcomes :
    let good := staged .calibration calibrationImage
    let bad := staged .calibration [(0, 0x01), (1, 0xF3), (2, 70)]
    let body := be 2 good.check.toNat
    (((loading good).advanceTo 5).setCalen false).hears (down 0x62 body) (told .loadCommit body)
      ∧ (loading good).takes ∧ cab.takes
      ∧ (natAt body 0 2 = good.check.toNat ∧ good.badField = none ∧ bad.badField = some 0
        ∧ (0 : Half) ≠ good.check ∧ good.kind = .calibration
        ∧ (staged .channels [(0, 1), (2, 0), (3, 40), (4, 3), (5, 0)]).badField = none
        ∧ (metered .hired (some trip) 0).meter.mode = .hired ∧ cab.meter.mode ≠ .stopped
        ∧ (loading good).dcu.staging = some good ∧ cab.dcu.staging = none) :=
  ⟨hears_of_heard (by decide +kernel), ⟨by decide, by decide⟩, cab_takes, by decide +kernel⟩

theorem witness_CommitOfEachKind :
    let image := fun (number site : Byte) => [(0, 1), (2, 0), (3, number), (4, site), (5, 0)]
    let lists := fun number site => channelsOfImage (image number site)
    (cab.setZone ZoneUnit.reset).zone.cell = none ∧ cab.zone.cell = some { row := 0, col := 5 }
      ∧ (hunting .settling 0 none none).link.mode ≠ .locked ∧ cab.link.mode = .locked
      ∧ cab.channels[cab.link.entry]? = some { number := 40, site := some 3, role := .home }
      ∧ lists 40 3 = [{ number := 40, site := some 3, role := .home }]
      ∧ lists 40 5 = [{ number := 40, site := some 5, role := .home }]
      ∧ (∀ y ∈ lists 40 5, ¬ (y.number = 40 ∧ (y.site = cab.link.lockedSite ∨ y.site = none)))
      ∧ (∀ y ∈ lists 41 3, y.number ≠ 40) := by decide +kernel

theorem witness_SupplyAndRetainedStore :
    ({ cab with vdd := false }).vdd = false ∧ cab.vdd = true ∧ ({ cab with vbakLatch := true }).vbakLatch = true
      ∧ cab.vbakLatch = false ∧ cab.meter.trip = none ∧ (metered .hired (some trip) 0).meter.trip = some trip
      ∧ cab.trips.log.length = 16 := by decide

/-! ## Chapter 12 -/

/-- The cab with a frame leaving and frames waiting. -/
def sending (waiting : List OutFrame) : State := cab.setCab { cab.cab with sending := some [0x7E], waiting := waiting }

def response : OutFrame := .response 7 0 0 []

def notice : OutFrame := .notice .offer 0 []

theorem witness_EachRequestAnsweredOrOverrun :
    let i := Instr.loadCommit 5 true (.cab 0)
    cab.vdd = true ∧ i.stamp = some 5 ∧ i.request = some (0x16, [0, 0])
      ∧ 4 ≤ (sending (List.replicate 4 response)).cab.responses
      ∧ (sending (List.replicate 3 response)).cab.responses < 4
      ∧ (sending (List.replicate 3 response)).cab.sending ≠ none
      ∧ cab.cab.sending = none ∧ cab.cab.waiting = [] := by decide

theorem witness_FramesLeaveInOrder :
    let full := sending (response :: notice :: List.replicate 19 notice)
    ((cab.setCab { cab.cab with mask := 0x3FE }).cab.mask.getLsbD NoticeKind.offer.code = false)
      ∧ cab.cab.mask.getLsbD NoticeKind.clock.code = true ∧ cab.cab.sending = none ∧ cab.cab.waiting = []
      ∧ (sending (List.replicate 19 notice)).cab.sending ≠ none
      ∧ (sending (List.replicate 19 notice)).cab.notices < 20 ∧ 20 ≤ full.cab.notices
      ∧ full.cab.waiting = [response] ++ notice :: List.replicate 19 notice
      ∧ (∀ x ∈ [response], x.isResponse = true) ∧ notice.isResponse = false ∧ (sending []).cab.waiting = []
      ∧ (sending [response]).cab.waiting = .response 7 0 0 [] :: []
      ∧ (sending [notice]).cab.waiting = .notice .offer 0 [] :: []
      ∧ ([] : List Byte).length ≤ 61 ∧ (List.replicate 61 (0 : Byte)).length ≤ 61
      ∧ 61 < (List.replicate 62 (0 : Byte)).length := by decide

theorem witness_FramesLeaveInOrder_takes : cab.vdd = true ∧ cab.takes := ⟨rfl, cab_takes⟩

/-- The cab with frame assembly in a state. -/
def assembling (a : Assembly) : State := cab.setCab { cab.cab with assembly := a }

theorem witness_FrameAssembly :
    let good := fun (bytes : List Byte) => bytes.foldl (· + ·) 0 = 0
    cab.vdd = true ∧ cab.cab.assembly = .hunt ∧ (assembling (.frame [] 10)).cab.assembly = .frame [] 10
      ∧ (assembling (.discard 10)).cab.assembly = .discard 10 ∧ 10 + 20 ≤ ((assembling (.discard 10)).advanceTo 30).now
      ∧ ((assembling (.discard 10)).advanceTo 29).now < 10 + 20
      ∧ (64 : Byte).toNat ≤ 64 ∧ 64 < (65 : Byte).toNat
      ∧ ([] : List Byte).length ≠ (0 : Byte).toNat + 1 ∧ ([0x07] : List Byte).length = (0 : Byte).toNat + 1
      ∧ ¬ good [0, 0x07, 0xF8] ∧ good [0, 0x17, 0xE9] ∧ isRequestKind 0x17 = false ∧ good [0, 0x06, 0xFA]
      ∧ isRequestKind 0x06 = true ∧ 0 < (requestBounds 0x06).1
      ∧ good [2, 0x06, 0, 0, 0xF8] ∧ (requestBounds 0x06).2 < 2
      ∧ good [1, 0x0D, 10, 0xE8] ∧ good [2, 0x0D, 0, 0, 0xF1] ∧ good [5, 0x0D, 6, 0, 9, 3, 0, 0xDC]
      ∧ good [5, 0x0D, 6, 0, 9, 0, 80, 0x8F] := by decide

theorem witness_CompletedFrameIsItsRequest :
    let i := Instr.loadData 5 true (.cab { offset := 7, data := List.replicate 62 0 })
    cab.vdd = true ∧ i.wellFormed = true ∧ i.stamp = some 5
      ∧ i.request = some (0x15, [0, 7] ++ List.replicate 62 0) ∧ i.calenLevel = some true
      ∧ (assembling (.frame (BitVec.ofNat 8 64 :: 0x15 :: ([0, 7] ++ List.replicate 62 0)) 4)).cab.assembly
          = .frame (BitVec.ofNat 8 64 :: 0x15 :: ([0, 7] ++ List.replicate 62 0)) 4
      ∧ (cab.advanceTo 5).now < 4 + 20 := by decide +kernel

/-- Two items of 20 bytes fit a RESPONSE with one count more, and three do not. -/
theorem witness_ReadsReturnTheirRecords_lists :
    let item : ListItem := { fields := List.replicate 20 0, text := none }
    ([[0]] : List (List Byte)).flatten.length ≤ 59
      ∧ 2 + 1 + ([item, item].map (fun i => i.fields)).flatten.length ≤ 61
      ∧ ¬ 2 + 1 + ([item, item, item].map (fun i => i.fields)).flatten.length ≤ 61 := by decide

theorem witness_ReadsReturnTheirRecords :
    cab.takes ∧ (offered fiveOffers).takes ∧ (booked .assigned).takes
      ∧ (79 < (80 : Byte).toNat ∧ (79 : Byte).toNat ≤ 79 ∧ 119 < (120 : Byte).toNat ∧ (119 : Byte).toNat ≤ 119
        ∧ 239 < (240 : Byte).toNat ∧ (239 : Byte).toNat ≤ 239 ∧ cab.offers.find 5 = none
        ∧ (offered fiveOffers).offers.find 5 = some (offer 5 .prebook .offered 10000)
        ∧ ([] : List Job).find? (fun j => j.number == 7) = none
        ∧ ((booked .assigned).jobs.active.toList ++ (booked .assigned).jobs.queued).find? (fun j => j.number == 7)
            = some (job 7 .assigned)
        ∧ cab.msgs.find 9 = none
        ∧ (storing [message 9 .normal .unread]).msgs.find 9 = some (message 9 .normal .unread)
        ∧ ((95 : Byte).toNat < 96 ∧ 127 < (128 : Byte).toNat ∧ 96 ≤ (96 : Byte).toNat ∧ (127 : Byte).toNat ≤ 127)
        ∧ cab.meter.trip = none ∧ (metered .hired (some trip) 0).meter.trip = some trip
        ∧ cab.trips.named 1 = none ∧ (reporting.trips.named 1).isSome = true
        ∧ 1 < (2 : Byte).toNat ∧ (1 : Byte).toNat ≤ 1 ∧ cab.trips.previous = none
        ∧ cab.trips.current = some (ShiftRecord.new 8 77 none)
        ∧ cab.emu.state = .quiet ∧ (calling .active true).emu.inCall = true ∧ (calling .active true).emu.covert = true
        ∧ arming.emu.state = .arming ∧ (calling .active false).emu.covert = false) :=
  ⟨cab_takes, ⟨by decide, by decide⟩, booked_takes _, by decide +kernel⟩

/-! ## The whole machine -/

theorem witness_StepRunsFrontCommand : busy.pending = [Instr.cdRise 50] ∧ State.reset.pending = [] := by decide

theorem witness_ResetIsLostStorePowerOn : ({ cab with vbakLatch := true }).vbakLatch = true := rfl

theorem witness_EveryCommandCompletes :
    let away := { cab with vdd := false }
    cab.vdd = true ∧ (Instr.stop 5).stamp = some 5 ∧ (∀ t, Instr.stop 5 ≠ .cdRise t ∧ Instr.stop 5 ≠ .cdFall t)
      ∧ away.vdd = false ∧ Instr.stop 5 ≠ .powerOn ∧ Instr.stop 5 ≠ .vbakFall
      ∧ ∀ t, Instr.stop 5 ≠ .secondsTick t :=
  ⟨rfl, rfl, fun _ => ⟨nofun, nofun⟩, rfl, nofun, nofun, fun _ => nofun⟩

/-- `busy` steps. -/
theorem busy_steps : step busy = .next (after (step busy)) := rfl

theorem witness_StepKeepsCollections :
    busy.Bounded ∧ busy.Distinct ∧ busy.NotesLinked ∧ busy.cab.CtxdServed :=
  ⟨by unfold State.Bounded; decide, by unfold State.Distinct; decide,
    fun x h => (nomatch (show x ∈ ([] : List Message) from h)), fun _ => rfl⟩

theorem witness_StepKeepsCallRules : busy.NoBidInCall ∧ busy.NoOffersWhenClosed ∧ busy.CallShape :=
  ⟨by unfold State.NoBidInCall; decide, fun _ => rfl, by unfold State.CallShape; decide⟩

theorem busy_onBoardIsBound : busy.OnBoardIsBound := by
  intro _
  refine ⟨fun j h => ?_, fun p n h h' => ?_, fun j h => ?_⟩
  · exact nomatch (show (none : Option Job) = some j from h)
  · obtain rfl : trip = p := Option.some.inj h
    exact nomatch (show (none : Option Nat) = some n from h')
  · exact nomatch (show j ∈ ([] : List Job) from h)

theorem witness_StepKeepsMeterShape :
    busy.ShiftShape ∧ busy.OnBoardIsBound ∧ cab.meter.mode = .vacant
      ∧ exec (.hire 5 1) cab = .next (after (exec (.hire 5 1) cab)) ∧ Instr.hire 5 1 ≠ .powerOn
      ∧ (after (exec (.hire 5 1) cab)).meter.mode ≠ cab.meter.mode :=
  ⟨by unfold State.ShiftShape; decide, busy_onBoardIsBound, rfl, rfl, nofun, by decide +kernel⟩

theorem tariffSet_sound : tariffSet.sound := by
  unfold TariffSet.sound Tariff.sound
  decide

theorem busy_progressBelow : busy.ProgressBelow := by
  refine ⟨fun b h => ?_, fun b h => ?_, fun p h => ?_⟩
  · obtain rfl : bank = b := Option.some.inj h
    exact tariffSet_sound
  · exact nomatch (show (none : Option Bank) = some b from h)
  · obtain rfl : trip = p := Option.some.inj h
    exact ⟨tariff1, rfl, by decide⟩

theorem witness_StepKeepsMeterNumbers : busy.ProgressBelow ∧ busy.ResidueBelow :=
  ⟨busy_progressBelow, by show (500 : Nat) ≤ 4096 ∧ 4096 ≤ 20000 ∧ 20 ≤ 70 ∧ 70 ≤ 100 ∧ 0 < 4096; decide⟩

theorem witness_StepKeepsRecords :
    reporting.trips.ring ∧ busy.Balanced ∧ busy.ClockInRange
      ∧ (loading (staged .calibration calibrationImage)).StagedInside :=
  ⟨⟨rfl, by decide, by
      intro n h hn
      have hlt := (List.getElem?_eq_some_iff.mp hn).1
      have h16 : reporting.trips.log.length = 16 := rfl
      rw [h16] at hlt
      interval_cases n <;> first | exact nomatch (show some (none : Option HeldTrip) = some (some h) from hn) | skip
      cases hn
      rfl⟩,
    ⟨fun _ h => by
      obtain rfl : ShiftRecord.new 8 77 none = _ := Option.some.inj h
      unfold ShiftRecord.balanced
      decide, fun _ h => nomatch (show (none : Option ShiftRecord) = some _ from h)⟩,
    fun _ h => by
      cases h
      decide,
    fun _ h => by
      cases h
      decide⟩

end Sys2Proof.Tests
end

section
/-!
PROOFS. Chapter 1: what a telegram command does with the delivery that closes at it, and the deliveries that
fail an acceptance test.
-/

namespace Sys2Proof.Machine

/-- The acceptance tests read no timer. -/
@[simp] theorem State.acceptanceFault_advanceTo (s : State) (t : Stamp) (d : Delivery) :
    (s.advanceTo t).acceptanceFault d = s.acceptanceFault d := by
  unfold State.advanceTo
  split <;> rfl

/-- The delivery that closes at a telegram command is taken at the command's own stamp. -/
theorem State.telegram_of_closing {s : State} {t : Stamp} {rx : List Byte} {d : Delivery}
    (hv : s.vdd = true) (hc : (s.advanceTo t).closing rx = some d) (mine : Telegram → Bool) :
    s.telegram t rx mine = (s.advanceTo t).takeDelivery d mine State.handOver := by
  rw [State.telegram, State.beforeBytes_of_closing hc, State.event_of_vdd hv, State.delivery, hc]

/-- A delivery that fails an acceptance test is neither reported nor handed on: the receive buffer is free
again and one counter rises (R3). -/
theorem State.takeDelivery_of_fault {s : State} {d : Delivery} {c : RxCounter}
    (hf : s.acceptanceFault d = some c) (mine : Telegram → Bool) (act : Telegram → State → State) :
    s.takeDelivery d mine act = { s with air := { rx := none, counters := s.air.counters.count c } } := by
  rw [State.takeDelivery, hf]
  rfl

theorem exec_deliveryDropped (t : Stamp) (rx : List Byte) (s : State) :
    exec (.deliveryDropped t rx) s = .next (s.telegram t rx fun _ => false) := rfl

theorem exec_deliveryDropped_of_fault {s : State} {t : Stamp} {rx : List Byte} {d : Delivery} {c : RxCounter}
    (hv : s.vdd = true) (hc : (s.advanceTo t).closing rx = some d) (hf : s.acceptanceFault d = some c) :
    exec (.deliveryDropped t rx) s =
      .next { s.advanceTo t with air := { rx := none, counters := s.air.counters.count c } } := by
  have hf' : (s.advanceTo t).acceptanceFault d = some c := by rw [State.acceptanceFault_advanceTo, hf]
  rw [exec_deliveryDropped, State.telegram_of_closing hv hc, State.takeDelivery_of_fault hf',
    State.advanceTo_air]

/-! ## The acceptance tests in their order (R3 to R6) -/

section

variable {s : State} {d : Delivery}

theorem State.acceptanceFault_of_size (hsize : d.size < 8 ∨ 104 < d.size) :
    s.acceptanceFault d = some .lengthErrors := if_pos hsize

theorem State.acceptanceFault_of_crc (hsize : ¬ (d.size < 8 ∨ 104 < d.size))
    (hcrc : (crc d.checked).toNat ≠ d.carried) : s.acceptanceFault d = some .crcErrors :=
  (if_neg hsize).trans (if_pos hcrc)

/-- Behind the tests of the size and the CRC stand those of the header. -/
theorem State.acceptanceFault_of_header (hsize : ¬ (d.size < 8 ∨ 104 < d.size))
    (hcrc : ¬ (crc d.checked).toNat ≠ d.carried) :
    s.acceptanceFault d =
      let h := Header.read d.bytes
      if h.length ≠ d.size - 8 ∨ 96 < h.length then some .lengthErrors
      else if h.uplink = true then some .uplinkHeard
      else if s.dcu.address = none ∨ h.fleet ≠ s.address.fleet then some .foreignFleet
      else none :=
  (if_neg hsize).trans (if_neg hcrc)

end

end Sys2Proof.Machine

section

open Sys2Proof Sys2Proof.Machine

/-- Settles O2: the tests of the statement are those of `State.acceptanceFault`, in its order, and the test
that fails first names the counter that rises. -/
theorem failedDeliveryCounted : Obligations.FailedDeliveryCounted := by
  intro s t rx d hv hc h c counted
  have dropped {k : RxCounter} (hf : s.acceptanceFault d = some k) :
      exec (.deliveryDropped t rx) s = .next (counted (c.count k)) :=
    exec_deliveryDropped_of_fault hv hc hf
  split_ifs with hsize hcrc hlength huplink hfleet
  · exact dropped (State.acceptanceFault_of_size hsize)
  · exact dropped (State.acceptanceFault_of_crc hsize hcrc)
  · exact dropped ((State.acceptanceFault_of_header hsize hcrc).trans (if_pos hlength))
  · exact dropped ((State.acceptanceFault_of_header hsize hcrc).trans
      ((if_neg hlength).trans (if_pos huplink)))
  · exact dropped ((State.acceptanceFault_of_header hsize hcrc).trans
      ((if_neg hlength).trans ((if_neg huplink).trans (if_pos hfleet))))

end
end

section
/-!
PROOFS. Chapter 4: what a POSITION request does to the cell, the zone and the stale flag, when it reports a
change of zone, and what its response says.
-/

namespace Sys2Proof.Machine

/-! ## The committed tables are read as before -/

@[simp] theorem State.address_advanceTo (s : State) (t : Stamp) : (s.advanceTo t).address = s.address := by
  simp only [State.address, State.advanceTo_dcu]

@[simp] theorem State.op_advanceTo (s : State) (t : Stamp) : (s.advanceTo t).op = s.op := by
  simp only [State.op, State.advanceTo_dcu]

/-- A directory byte is read from the committed zone map alone (R58). -/
theorem State.directoryByte_of_dcu {s s' : State} (h : s'.dcu = s.dcu) : s'.directoryByte = s.directoryByte := by
  funext z i
  simp only [State.directoryByte, h]

/-- The zone of a cell is the map's byte for it, and 0 while no map is committed (R57). -/
theorem State.zoneAt_eq (s : State) (c : Cell) :
    s.zoneAt c = (s.dcu.zoneMap.map fun v => (v.table.read (c.row * 64 + c.col)).toNat).getD 0 := by
  unfold State.zoneAt
  cases s.dcu.zoneMap <;> rfl

/-! ## The contents of a POSITION response (R64) -/

/-- The contents of a POSITION response that names the zone `z`, with the directory in force in `s`. -/
def State.positionFieldsOf (s : State) (z : Nat) (stale queued : Bool) : List (List Byte) :=
  [be 1 z, [flagByte (s.directoryByte z 7 = 1)], be 1 (s.directoryByte z 6), [flagByte stale],
   [flagByte queued]]

/-- The response names the zone and the stale flag of the state that answers; the directory is the one
before the report, which commits no table. -/
theorem State.positionFields_of_dcu {s s' : State} (h : s'.dcu = s.dcu) (queued : Bool) :
    s'.positionFields queued = s.positionFieldsOf s'.zone.zone s'.zone.stale queued := by
  simp only [State.positionFieldsOf, ← State.directoryByte_of_dcu h]
  rfl

theorem State.positionFieldsOf_of_dcu {s s' : State} (h : s'.dcu = s.dcu) :
    s'.positionFieldsOf = s.positionFieldsOf := by
  funext z stale queued
  simp only [State.positionFieldsOf, State.directoryByte_of_dcu h]

/-! ## The zone-change rule (R62) -/

/-- The event that brings the zone unit to `u` calls for a ZONE CHANGE. -/
def State.reportsZone (s : State) (u : ZoneUnit) : Prop :=
  u.zone ≠ s.zone.zone ∧ u.zone ≠ 0 ∧ s.meter.mode = .vacant ∧ s.dcu.barred = false
    ∧ s.op.zoneReporting = true

theorem State.zoneChanged_setZone_iff (s : State) (u : ZoneUnit) :
    (s.setZone u).zoneChanged s.zone.zone = true ↔ s.reportsZone u := by
  have hop : (s.setZone u).op = s.op := rfl
  simp [State.zoneChanged, State.reportsZone, hop, and_assoc]

theorem State.zoneRule_of_reports {s : State} {u : ZoneUnit} (h : s.reportsZone u) :
    (s.setZone u).zoneRule s.zone.zone =
      (s.setZone u).join .zoneChange (be 1 u.zone ++ [s.address.attributes]) none :=
  if_pos ((s.zoneChanged_setZone_iff u).mpr h)

theorem State.zoneRule_of_not_reports {s : State} {u : ZoneUnit} (h : ¬ s.reportsZone u) :
    (s.setZone u).zoneRule s.zone.zone = { state := s.setZone u, joined := false } :=
  if_neg (mt (s.zoneChanged_setZone_iff u).mp h)

/-! ## The three outcomes of a report (R59 to R61) -/

section

variable {s : State} {row col noFix : Byte}

theorem State.position_of_noFix (h : noFix ≠ 0) :
    s.position row col noFix =
      (s.setZone { s.zone with stale := true }).doneWith (s.positionFieldsOf s.zone.zone true false) :=
  if_pos h

theorem State.position_of_outOfRange (h : noFix = 0) (hr : 63 < row.toNat ∨ 63 < col.toNat) :
    s.position row col noFix = s.refuse .argument :=
  (if_neg (not_not.mpr h)).trans (if_pos hr)

/-- The zone unit after a report with a fix in the cell `c` (R60). -/
def State.fixedAt (s : State) (c : Cell) : ZoneUnit := { cell := some c, stale := false, zone := s.zoneAt c }

theorem State.position_of_fix (h : noFix = 0) (hrow : row.toNat ≤ 63) (hcol : col.toNat ≤ 63) :
    s.position row col noFix =
      let j := (s.setZone (s.fixedAt { row := row.toNat, col := col.toNat })).zoneRule s.zone.zone
      j.state.doneWith (j.state.positionFields j.joined) :=
  (if_neg (not_not.mpr h)).trans (if_neg (by omega))

theorem State.position_of_fix_not_reports (h : noFix = 0) (hrow : row.toNat ≤ 63) (hcol : col.toNat ≤ 63)
    {u : ZoneUnit} (hu : s.fixedAt { row := row.toNat, col := col.toNat } = u) (hr : ¬ s.reportsZone u) :
    s.position row col noFix = (s.setZone u).doneWith (s.positionFieldsOf u.zone u.stale false) := by
  rw [State.position_of_fix h hrow hcol, hu, State.zoneRule_of_not_reports hr]
  rfl

theorem State.position_of_fix_reports (h : noFix = 0) (hrow : row.toNat ≤ 63) (hcol : col.toNat ≤ 63)
    {u : ZoneUnit} (hu : s.fixedAt { row := row.toNat, col := col.toNat } = u) (hr : s.reportsZone u) :
    s.position row col noFix =
      let j := (s.setZone u).join .zoneChange (be 1 u.zone ++ [s.address.attributes]) none
      j.state.doneWith (s.positionFieldsOf u.zone u.stale j.joined) := by
  rw [State.position_of_fix h hrow hcol, hu, State.zoneRule_of_reports hr]
  dsimp only
  rw [State.positionFields_of_dcu (State.join_dcu ..), State.join_zone]
  rfl

end

/-- A POSITION request that the part takes is answered by the Zone Unit in the state at the command's stamp,
with frame assembly back in HUNT. -/
theorem exec_position_of_takes {s : State} (h : s.takes) (t : Stamp) (row col noFix : Byte) {a : Answer}
    (ha : (s.advanceTo t).toHunt.position row col noFix = a) :
    exec (.position t row col noFix) s = .next (a.state.respond 0x01 a.code a.fields) := by
  subst ha
  exact congrArg Host.Outcome.next (State.request_of_takes h t 0x01 _)

end Sys2Proof.Machine

section

open Sys2Proof Sys2Proof.Machine

/-- Settles O20: the clauses are the three outcomes of a report (R59 to R61), a fix in range with and without a
change to report (R62), taken in the state at the command's stamp, whose zone unit and committed tables are
those of `s`. -/
theorem positionReportMovesZone : Obligations.PositionReportMovesZone := by
  intro s t row col noFix hs s0 zone fields fixed reports joined
  have hdcu : s0.toHunt.dcu = s.dcu := s.advanceTo_dcu t
  have hzone : s0.toHunt.zone = s.zone := s.advanceTo_zone t
  have hmeter : s0.toHunt.meter = s.meter := s.advanceTo_meter t
  have hop : s0.toHunt.op = s.op := s.op_advanceTo t
  have haddress : s0.toHunt.address = s.address := s.address_advanceTo t
  have hfields : s0.toHunt.positionFieldsOf = fields := State.positionFieldsOf_of_dcu hdcu
  have hfixed : s0.toHunt.fixedAt { row := row.toNat, col := col.toNat } = fixed := by
    rw [State.fixedAt, State.zoneAt_eq, hdcu]
  have hreports : s0.toHunt.reportsZone fixed ↔ reports := by
    rw [State.reportsZone, hzone, hdcu, hmeter, hop]
  refine ⟨fun h => ?_, fun h hr => ?_, fun h hrow hcol hr => ?_, fun h hrow hcol hr => ?_⟩
  · rw [exec_position_of_takes hs t row col noFix (State.position_of_noFix h), hfields, hzone]
    rfl
  · exact exec_position_of_takes hs t row col noFix (State.position_of_outOfRange h hr)
  · rw [exec_position_of_takes hs t row col noFix
      (State.position_of_fix_not_reports h hrow hcol hfixed (mt hreports.mp hr)), hfields]
    rfl
  · rw [exec_position_of_takes hs t row col noFix
      (State.position_of_fix_reports h hrow hcol hfixed (hreports.mpr hr)), hfields, haddress]
    rfl

end
end

section
/-!
PROOFS. Chapter 7: what SHIFT OPEN and SHIFT CLOSE answer at each of their tests and what they do when they
pass; which band of a schedule is the nearest at a moment of the week, and what a band evaluation does to the
trip in progress.
-/

namespace Sys2Proof.Machine

/-- The wall stamp is read from the wall clock alone (R196). -/
theorem State.wallStamp_of_dcu {s s' : State} (h : s'.dcu = s.dcu) : s'.wallStamp = s.wallStamp := by
  simp only [State.wallStamp, h]

/-! ## Refusals of meter requests (R111) -/

theorem State.refuseState_of_offShift {s : State} (h : s.meter.mode = .offShift) :
    s.refuseState = s.refuse .state := if_pos h

/-- In an open shift a STATE refusal counts a sequence fault. -/
theorem State.refuseState_of_inShift {s : State} (h : s.meter.mode ≠ .offShift) :
    s.refuseState = s.countFault.refuse .state := if_neg h

/-! ## The outcomes of SHIFT OPEN (R112) -/

section

variable {s : State} {driver : Nat}

theorem State.openShift_of_noDriver (h : driver = 0) : s.openShift driver = s.refuse .argument := if_pos h

theorem State.openShift_of_inShift (hd : driver ≠ 0) (hm : s.meter.mode ≠ .offShift) :
    s.openShift driver = s.countFault.refuse .state :=
  (if_neg hd).trans ((if_pos hm).trans (State.refuseState_of_inShift hm))

theorem State.openShift_of_offShift (hd : driver ≠ 0) (hm : s.meter.mode = .offShift) :
    s.openShift driver =
      let number := nextNumber s.trips.lastShift
      ((s.setMeter { s.meter with mode := .vacant }).setTrips
        { s.trips with
          lastShift := number
          current := some (ShiftRecord.new number driver s.wallStamp) }).doneWith [be 2 number] :=
  (if_neg hd).trans (if_neg (not_not.mpr hm))

end

/-! ## The outcomes of SHIFT CLOSE (R113) -/

/-- In QUIET there is no call. -/
theorem Emergency.inCall_of_quiet {e : Emergency} (h : e.state = .quiet) : e.inCall = false := by
  simp [Emergency.inCall, h]

section

variable {s : State}

theorem State.closeShift_of_offShift (h : s.meter.mode = .offShift) : s.closeShift = s.refuse .state :=
  (if_pos (by simp [h])).trans (State.refuseState_of_offShift h)

/-- A trip in progress keeps the shift open. -/
theorem State.closeShift_of_trip (h : s.meter.mode = .hired ∨ s.meter.mode = .stopped) :
    s.closeShift = s.countFault.refuse .state := by
  have hm : s.meter.mode ≠ .vacant ∧ s.meter.mode ≠ .offShift := by
    obtain h | h := h <;> simp [h]
  exact (if_pos hm.1).trans (State.refuseState_of_inShift hm.2)

theorem State.closeShift_of_emergency (hm : s.meter.mode = .vacant)
    (he : s.emu.state = .arming ∨ s.emu.overtCall = true) : s.closeShift = s.refuse .emergency :=
  (if_neg (not_not.mpr hm)).trans (if_pos he)

/-- A covert call is answered as a job in the book is, so that the cab terminal is shown nothing of it. -/
theorem State.closeShift_of_covert_or_jobs (hm : s.meter.mode = .vacant)
    (he : ¬ (s.emu.state = .arming ∨ s.emu.overtCall = true))
    (h : s.emu.covertCall = true ∨ s.jobs.jobs ≠ []) : s.closeShift = s.countFault.refuse .state := by
  have hrefused : s.closeShift = s.refuseState := by
    refine (if_neg (not_not.mpr hm)).trans ((if_neg he).trans ?_)
    by_cases hc : s.emu.covertCall = true
    · exact if_pos hc
    · exact (if_neg hc).trans (if_pos (h.resolve_left hc))
  exact hrefused.trans (State.refuseState_of_inShift (by simp [hm]))

/-- The record that is frozen is the current one, and the SHIFT REPORT holds it as closed (R148). -/
theorem State.freezeShift_of_current {r : ShiftRecord} (h : s.trips.current = some r) :
    s.freezeShift =
      let closed := { r with closed := s.wallStamp }
      (s.setTrips { s.trips with previous := some closed, current := none }).queue .shiftReport
        (shiftReportBody closed s.trips.odometer) := by
  simp only [State.freezeShift, h]

theorem State.closeShift_of_passes {r : ShiftRecord} (hm : s.meter.mode = .vacant)
    (he : s.emu.state = .quiet) (hj : s.jobs.jobs = []) (hr : s.trips.current = some r) :
    s.closeShift =
      let closed := { r with closed := s.wallStamp }
      let s1 := ((s.setMeter { s.meter with mode := .offShift }).setTrips
        { s.trips with previous := some closed, current := none }).queue .shiftReport
          (shiftReportBody closed s.trips.odometer)
      ((s1.setOffers { s.offers with table := [] }).removeBids).doneWith [] := by
  have hcall := Emergency.inCall_of_quiet he
  have hovert : ¬ (s.emu.state = .arming ∨ s.emu.overtCall = true) := by
    simp [Emergency.overtCall, he, hcall]
  have hcovert : ¬ s.emu.covertCall = true := by simp [Emergency.covertCall, hcall]
  have htaken : s.closeShift =
      (((s.setMeter { s.meter with mode := .offShift }).freezeShift).emptyOffers).doneWith [] :=
    (if_neg (not_not.mpr hm)).trans
      ((if_neg hovert).trans ((if_neg hcovert).trans (if_neg (not_not.mpr hj))))
  rw [htaken, State.freezeShift_of_current (s := s.setMeter { s.meter with mode := .offShift }) hr,
    State.emptyOffers, State.queue_offers]
  rfl

end

/-! ## The two requests, taken -/

theorem exec_shiftOpen_of_takes {s : State} (h : s.takes) (t : Stamp) (driver : Half) {a : Answer}
    (ha : (s.advanceTo t).toHunt.openShift driver.toNat = a) :
    exec (.shiftOpen t driver) s = .next (a.state.respond 0x0B a.code a.fields) := by
  subst ha
  exact congrArg Host.Outcome.next (State.request_of_takes h t 0x0B _)

theorem exec_shiftClose_of_takes {s : State} (h : s.takes) (t : Stamp) {a : Answer}
    (ha : (s.advanceTo t).toHunt.closeShift = a) :
    exec (.shiftClose t) s = .next (a.state.respond 0x0C a.code a.fields) := by
  subst ha
  exact congrArg Host.Outcome.next (State.request_of_takes h t 0x0C _)

/-! ## The points of a band (R124) -/

/-- The moment lies `d` minutes after a weekly point of the band. -/
def Band.pointBack (b : Band) (moment d : Nat) : Prop :=
  ∃ day < 7, b.days.getLsbD day = true ∧ d < 10080 ∧ (day * 1440 + b.start + d) % 10080 = moment

/-- The days of the band's mask. -/
def Band.weekDays (b : Band) : List Nat := [0, 1, 2, 3, 4, 5, 6].filter (fun d => b.days.getLsbD d)

/-- The minutes from the band's point on a day to the moment, wrapping the week. -/
def Band.away (b : Band) (moment day : Nat) : Nat :=
  (moment + weekMinutes - (day * 1440 + b.start)) % weekMinutes

theorem Band.mem_weekDays {b : Band} {day : Nat} :
    day ∈ b.weekDays ↔ day < 7 ∧ b.days.getLsbD day = true := by
  have hweek : day ∈ [0, 1, 2, 3, 4, 5, 6] ↔ day < 7 := List.mem_range (n := 7)
  rw [Band.weekDays, List.mem_filter, hweek]

/-- The fold of the model is the minimum over the days of the mask. -/
theorem Band.distance_eq_min? (b : Band) (moment : Nat) :
    b.distance moment = (b.weekDays.map (b.away moment)).min? := by
  unfold Band.distance Band.weekDays
  cases List.filter (fun d => b.days.getLsbD d) [0, 1, 2, 3, 4, 5, 6] with
  | nil => rfl
  | cons day days =>
    simp only [List.foldl_cons, List.map_cons, List.min?_cons']
    change List.foldl _ (some (b.away moment day)) days = _
    generalize b.away moment day = least
    induction days generalizing least with
    | nil => rfl
    | cons day days ih => exact ih _

theorem Band.pointBack_iff {b : Band} {moment d : Nat} (hm : moment < 10080) (hb : b.start < 1440) :
    b.pointBack moment d ↔ ∃ day ∈ b.weekDays, b.away moment day = d := by
  have hpoint : ∀ day < 7, (d < 10080 ∧ (day * 1440 + b.start + d) % 10080 = moment ↔
      b.away moment day = d) := by
    intro day hday
    simp only [Band.away, weekMinutes]
    omega
  constructor
  · rintro ⟨day, hday, hmask, hd⟩
    exact ⟨day, Band.mem_weekDays.mpr ⟨hday, hmask⟩, (hpoint day hday).mp hd⟩
  · rintro ⟨day, hmem, hd⟩
    obtain ⟨hday, hmask⟩ := Band.mem_weekDays.mp hmem
    exact ⟨day, hday, hmask, (hpoint day hday).mpr hd⟩

/-- The distance of a band is the least of the distances back to its points. -/
theorem Band.distance_eq_some_iff {b : Band} {moment d : Nat} (hm : moment < 10080) (hb : b.start < 1440) :
    b.distance moment = some d ↔
      b.pointBack moment d ∧ ∀ d', b.pointBack moment d' → d ≤ d' := by
  have hmem : ∀ n, n ∈ b.weekDays.map (b.away moment) ↔ b.pointBack moment n := fun n => by
    rw [List.mem_map, Band.pointBack_iff hm hb]
  simp only [Band.distance_eq_min?, List.min?_eq_some_iff, hmem]

/-! ## The nearest band (R124) -/

theorem distance_of_nearestBand {moment d : Nat} {b : Band} {bands : List Band}
    (h : nearestBand moment bands = some (d, b)) : b ∈ bands ∧ b.distance moment = some d := by
  induction bands with
  | nil => cases h
  | cons x rest ih =>
    have later (hrest : nearestBand moment rest = some (d, b)) :
        b ∈ x :: rest ∧ b.distance moment = some d :=
      ⟨List.mem_cons_of_mem x (ih hrest).1, (ih hrest).2⟩
    unfold nearestBand at h
    split at h
    · exact later h
    · rename_i hx _
      cases h
      exact ⟨List.mem_cons_self, hx⟩
    · rename_i hx hrest
      split at h
      · cases h
        exact ⟨List.mem_cons_self, hx⟩
      · exact later (hrest.trans h)

/-- A band at the head is the nearest when none behind it is nearer: the lower index of equals. -/
theorem nearestBand_cons_of_least {moment d : Nat} {b : Band} {back : List Band}
    (hb : b.distance moment = some d) (hback : ∀ x ∈ back, ∀ d', x.distance moment = some d' → d ≤ d') :
    nearestBand moment (b :: back) = some (d, b) := by
  simp only [nearestBand, hb]
  cases hn : nearestBand moment back with
  | none => rfl
  | some y =>
    obtain ⟨hmem, hd⟩ := distance_of_nearestBand hn
    exact if_pos (hback y.2 hmem y.1 hd)

/-- A band in front that is farther away changes nothing. -/
theorem nearestBand_cons_of_farther {moment d : Nat} {b x : Band} {rest : List Band}
    (hrest : nearestBand moment rest = some (d, b)) (hx : ∀ d', x.distance moment = some d' → d < d') :
    nearestBand moment (x :: rest) = some (d, b) := by
  simp only [nearestBand, hrest]
  cases hd : x.distance moment with
  | none => rfl
  | some d' => exact if_neg (Nat.not_le.mpr (hx d' hd))

theorem nearestBand_of_least {moment d : Nat} {b : Band} {front back : List Band}
    (hb : b.distance moment = some d) (hfront : ∀ x ∈ front, ∀ d', x.distance moment = some d' → d < d')
    (hback : ∀ x ∈ back, ∀ d', x.distance moment = some d' → d ≤ d') :
    nearestBand moment (front ++ b :: back) = some (d, b) := by
  induction front with
  | nil => exact nearestBand_cons_of_least hb hback
  | cons x front ih =>
    exact nearestBand_cons_of_farther (ih fun y hy => hfront y (List.mem_cons_of_mem x hy))
      (hfront x List.mem_cons_self)

theorem TariffSet.selectAt_of_nearest {set : TariffSet} {moment d : Nat} {b : Band}
    (h : nearestBand moment set.bands = some (d, b)) : set.selectAt moment = b.tariff := by
  simp only [TariffSet.selectAt, h]

theorem TariffSet.selectAt_of_empty {set : TariffSet} (h : set.bands = []) (moment : Nat) :
    set.selectAt moment = 1 := by
  simp only [TariffSet.selectAt, h, nearestBand]

/-! ## The band evaluation (R125, R126) -/

section

variable {s : State}

theorem State.evaluateBand_of_not_hired (h : s.meter.mode ≠ .hired) : s.evaluateBand = s := by
  unfold State.evaluateBand
  split
  · rename_i hm _ _
    exact (h hm).elim
  · rfl

theorem State.evaluateBand_of_hired {p : Trip} {bank : Bank} (hm : s.meter.mode = .hired)
    (hp : s.meter.trip = some p) (hb : s.meter.active = some bank) :
    s.evaluateBand =
      if s.select bank.set = p.tariff then s else s.changeTariff p (s.select bank.set) := by
  simp only [State.evaluateBand, hm, hp, hb]

theorem State.changeTariff_of_tariffs {p : Trip} {number : Nat} {old new : Tariff}
    (hold : s.tariff p.tariff = some old) (hnew : s.tariff number = some new) :
    s.changeTariff p number =
      (s.setMeter { s.meter with trip := some (p.change old new number) }).meterNotice .tariff
        (p.change old new number) := by
  simp only [State.changeTariff, hold, hnew]

end

end Sys2Proof.Machine

section

open Sys2Proof Sys2Proof.Machine

/-- Settles O26: the clauses are the outcomes of the two requests in the order of their tests (R112, R113), in
the state at the command's stamp, whose meter, records, offers, emergency and wall clock are those of `s`. -/
theorem shiftOpensAndCloses : Obligations.ShiftOpensAndCloses := by
  intro s t driver hs s0 fault number
  have hmeter : s0.toHunt.meter = s.meter := s.advanceTo_meter t
  have htrips : s0.toHunt.trips = s.trips := s.advanceTo_trips t
  have hemu : s0.toHunt.emu = s.emu := s.advanceTo_emu t
  have hjobs : s0.toHunt.jobs = s.jobs := s.advanceTo_jobs t
  have hoffers : s0.toHunt.offers = s.offers := s.advanceTo_offers t
  have hstamp : s0.toHunt.wallStamp = s.wallStamp := State.wallStamp_of_dcu (s.advanceTo_dcu t)
  have hfault : s0.toHunt.countFault = fault.toHunt := by
    rw [State.countFault, State.updateShift, htrips]
    rfl
  have hdriver (hd : driver ≠ 0) : driver.toNat ≠ 0 := mt (fun h => BitVec.eq_of_toNat_eq h) hd
  simp only [← hmeter, ← hemu, ← hjobs]
  refine ⟨fun hd => ?_, fun hd hm => ?_, fun hd hm => ?_, fun hm => ?_, fun hm => ?_, fun hm he => ?_,
    fun hm harm hovert h => ?_, fun r hm he hj hr => ?_⟩
  · exact exec_shiftOpen_of_takes hs t driver (State.openShift_of_noDriver (by rw [hd]; rfl))
  · rw [exec_shiftOpen_of_takes hs t driver (State.openShift_of_inShift (hdriver hd) hm), hfault]
    rfl
  · rw [exec_shiftOpen_of_takes hs t driver (State.openShift_of_offShift (hdriver hd) hm), htrips, hstamp]
    rfl
  · exact exec_shiftClose_of_takes hs t (State.closeShift_of_offShift hm)
  · rw [exec_shiftClose_of_takes hs t (State.closeShift_of_trip hm), hfault]
    rfl
  · exact exec_shiftClose_of_takes hs t (State.closeShift_of_emergency hm he)
  · rw [exec_shiftClose_of_takes hs t
      (State.closeShift_of_covert_or_jobs hm (not_or.mpr ⟨harm, ne_true_of_eq_false hovert⟩) h), hfault]
    rfl
  · rw [exec_shiftClose_of_takes hs t (State.closeShift_of_passes hm he hj (by rw [htrips, hr])), htrips,
      hstamp, hoffers]
    rfl

/-- Settles O32: the distance of a band is the least over its points, so the band of the statement is the one
the search of the model ends with, by induction over the bands in front of it; an evaluation with another
tariff rescales the progress (R126). -/
theorem bandChangesTariff : Obligations.BandChangesTariff := by
  refine ⟨fun set moment h => TariffSet.selectAt_of_empty h moment, ?_, ?_⟩
  · intro set moment front back b day d hbands hm hstart hday hmask hd hpoint hfront hback
    have hb : b ∈ b :: back := List.mem_cons_self
    have hiff : ∀ x ∈ set.bands, ∀ d', x.distance moment = some d' ↔
        x.pointBack moment d' ∧ ∀ n, x.pointBack moment n → d' ≤ n :=
      fun x hx _ => Band.distance_eq_some_iff hm (hstart x hx)
    simp only [hbands] at hiff
    refine TariffSet.selectAt_of_nearest (d := d) ?_
    rw [hbands]
    refine nearestBand_of_least ?_ (fun x hx d' hd' => ?_) (fun x hx d' hd' => ?_)
    · refine (hiff b (List.mem_append_right front hb) d).mpr ⟨⟨day, hday, hmask, hd, hpoint⟩, ?_⟩
      rintro n ⟨day', hday', hmask', hn, hpoint'⟩
      exact hback b day' n hb hday' hmask' hn hpoint'
    · obtain ⟨⟨day', hday', hmask', hn, hpoint'⟩, -⟩ :=
        (hiff x (List.mem_append_left _ hx) d').mp hd'
      exact hfront x day' d' hx hday' hmask' hn hpoint'
    · have hx' : x ∈ b :: back := List.mem_cons_of_mem b hx
      obtain ⟨⟨day', hday', hmask', hn, hpoint'⟩, -⟩ :=
        (hiff x (List.mem_append_right front hx') d').mp hd'
      exact hback x day' d' hx' hday' hmask' hn hpoint'
  · intro s p bank hp hb number
    have hnumber : s.select bank.set = number := rfl
    refine ⟨fun h => ?_, fun old new hm hne hold hnew => ?_⟩
    · by_cases hm : s.meter.mode = .hired
      · rw [State.evaluateBand_of_hired hm hp hb, hnumber, if_pos (h.resolve_left (not_not.mpr hm))]
      · exact State.evaluateBand_of_not_hired hm
    · rw [State.evaluateBand_of_hired hm hp hb, hnumber, if_neg hne,
        State.changeTariff_of_tariffs hold hnew]
      rfl

end
end

section
/-!
PROOFS. Chapter 9, the driver's requests: what MARK READ, REPLY and SEND answer at each of their tests, and what
they do when they pass.
-/

namespace Sys2Proof.Machine

theorem isDriverPhrase_iff {phrase : Nat} : isDriverPhrase phrase = true ↔ 96 ≤ phrase ∧ phrase ≤ 127 := by
  simp [isDriverPhrase]

theorem not_isDriverPhrase_iff {phrase : Nat} :
    ¬ isDriverPhrase phrase = true ↔ phrase < 96 ∨ 127 < phrase := by
  rw [isDriverPhrase_iff]
  omega

/-- The context block of a DRIVER MESSAGE reads nothing of frame assembly (R166). -/
theorem State.driverMessage_toHunt (s : State) (number phrase : Nat) :
    s.toHunt.driverMessage number phrase =
      s.toHunt.join .driverMessage (driverMessageBody s number phrase) none := rfl

/-! ## The outcomes of MARK READ (R164) -/

section

variable {s : State} {number : Nat} {x : Message}

theorem State.markRead_of_noNumber (h : number = 0) : s.markRead number = s.refuse .argument := if_pos h

theorem State.markRead_of_notHeld (hn : number ≠ 0) (h : s.msgs.find number = none) :
    s.markRead number = s.refuse .state := by
  simp only [State.markRead, if_neg hn, h]

theorem State.markRead_of_unread (hn : number ≠ 0) (h : s.msgs.find number = some x)
    (hx : x.state = .unread) :
    s.markRead number = (s.setMsgs (s.msgs.put { x with state := .read })).doneWith [] := by
  simp only [State.markRead, if_neg hn, h, if_pos hx]

theorem State.markRead_of_settled (hn : number ≠ 0) (h : s.msgs.find number = some x)
    (hx : x.state ≠ .unread) : s.markRead number = s.doneWith [] := by
  simp only [State.markRead, if_neg hn, h, if_neg hx]

end

/-! ## The tests of REPLY on the held message (R165, tests 3 to 6) -/

section

variable {s : State} {x : Message} {phrase group : Nat}

theorem State.replyRefusal_of_unanswerable (h : x.state = .replied ∨ x.group = none) :
    s.replyRefusal x phrase = some .state := by
  unfold State.replyRefusal
  split_ifs with hx
  · rfl
  · simp only [h.resolve_left hx]

theorem State.replyRefusal_of_noBook (hx : x.state ≠ .replied) (hg : x.group = some group)
    (hb : s.dcu.phrases = none) : s.replyRefusal x phrase = some .table := by
  simp only [State.replyRefusal, if_neg hx, hg, State.book, hb, Option.map_none]

theorem State.replyRefusal_of_book {book : Versioned Memory} (hx : x.state ≠ .replied)
    (hg : x.group = some group) (hb : s.dcu.phrases = some book) :
    s.replyRefusal x phrase = if phrase ∈ groupMembers book.table group then none else some .argument := by
  simp only [State.replyRefusal, if_neg hx, hg, State.book, hb, Option.map_some, List.contains_iff_mem]

end

/-! ## The outcomes of REPLY (R165) -/

section

variable {s : State} {number phrase : Nat} {x : Message}

theorem State.reply_of_outOfRange (h : number = 0 ∨ ¬ isDriverPhrase phrase = true) :
    s.reply number phrase = s.refuse .argument :=
  if_pos (by simpa using h)

theorem State.reply_of_notHeld (hn : number ≠ 0) (hp : isDriverPhrase phrase = true)
    (h : s.msgs.find number = none) : s.reply number phrase = s.refuse .state := by
  simp [State.reply, hn, hp, h]

theorem State.reply_of_refusal {code : RespCode} (hn : number ≠ 0) (hp : isDriverPhrase phrase = true)
    (h : s.msgs.find number = some x) (hr : s.replyRefusal x phrase = some code) :
    s.reply number phrase = s.refuse code := by
  simp [State.reply, hn, hp, h, hr]

theorem State.reply_of_passes (hn : number ≠ 0) (hp : isDriverPhrase phrase = true)
    (h : s.msgs.find number = some x) (hr : s.replyRefusal x phrase = none) :
    s.reply number phrase =
      let j := s.driverMessage number phrase
      if j.joined then (j.state.setMsgs (j.state.msgs.put { x with state := .replied })).doneWith []
      else j.state.refuse .full := by
  simp [State.reply, hn, hp, h, hr]

end

/-! ## The outcomes of SEND (R166) -/

section

variable {s : State} {phrase : Nat}

theorem State.send_of_outOfRange (h : ¬ isDriverPhrase phrase = true) :
    s.send phrase = s.refuse .argument := if_pos (by simpa using h)

theorem State.send_of_inRange (h : isDriverPhrase phrase = true) :
    s.send phrase =
      let j := s.driverMessage 0 phrase
      if j.joined then j.state.doneWith [] else j.state.refuse .full := if_neg (by simp [h])

end

/-! ## The three requests, taken -/

section

variable {s : State} {a : Answer}

theorem exec_markRead_of_takes (h : s.takes) (t : Stamp) (number : Half)
    (ha : (s.advanceTo t).toHunt.markRead number.toNat = a) :
    exec (.markRead t number) s = .next (a.state.respond 0x0E a.code a.fields) := by
  subst ha
  exact congrArg Host.Outcome.next (State.request_of_takes h t 0x0E _)

theorem exec_reply_of_takes (h : s.takes) (t : Stamp) (number : Half) (phrase : Byte)
    (ha : (s.advanceTo t).toHunt.reply number.toNat phrase.toNat = a) :
    exec (.reply t number phrase) s = .next (a.state.respond 0x0F a.code a.fields) := by
  subst ha
  exact congrArg Host.Outcome.next (State.request_of_takes h t 0x0F _)

theorem exec_send_of_takes (h : s.takes) (t : Stamp) (phrase : Byte)
    (ha : (s.advanceTo t).toHunt.send phrase.toNat = a) :
    exec (.send t phrase) s = .next (a.state.respond 0x10 a.code a.fields) := by
  subst ha
  exact congrArg Host.Outcome.next (State.request_of_takes h t 0x10 _)

end

end Sys2Proof.Machine

section

open Sys2Proof Sys2Proof.Machine

/-- Settles O37: the clauses are the outcomes of the three requests in the order of their tests (R164 to R166),
in the state at the command's stamp, whose messages and phrase book are those of `s`. -/
theorem markReadReplySend : Obligations.MarkReadReplySend := by
  intro s t n phrase hs s0 p uplink marked
  have hmsgs : s0.toHunt.msgs = s.msgs := s.advanceTo_msgs t
  have hdcu : s0.toHunt.dcu = s.dcu := s.advanceTo_dcu t
  have huplink (number : Nat) : s0.toHunt.driverMessage number p = uplink number :=
    s0.driverMessage_toHunt number p
  have hnumber (hn : n ≠ 0) : n.toNat ≠ 0 := mt (fun h => BitVec.eq_of_toNat_eq h) hn
  have hphrase (hlo : 96 ≤ p) (hhi : p ≤ 127) : isDriverPhrase p = true := isDriverPhrase_iff.mpr ⟨hlo, hhi⟩
  simp only [← hmsgs, ← hdcu]
  refine ⟨fun hn => ?_, fun hn h => ?_, fun x hn h hx => ?_, fun x hn h hx => ?_, fun h => ?_,
    fun hn hlo hhi h => ?_, fun x hn hlo hhi h => ⟨fun hx => ?_, fun group hx hg => ⟨fun hb => ?_,
      fun book hb => ⟨fun hp => ?_, fun hp => ?_⟩⟩⟩, fun h => ?_, fun hlo hhi => ?_⟩
  · exact exec_markRead_of_takes hs t n (State.markRead_of_noNumber (by rw [hn]; rfl))
  · exact exec_markRead_of_takes hs t n (State.markRead_of_notHeld (hnumber hn) h)
  · exact exec_markRead_of_takes hs t n (State.markRead_of_unread (hnumber hn) h hx)
  · exact exec_markRead_of_takes hs t n (State.markRead_of_settled (hnumber hn) h hx)
  · exact exec_reply_of_takes hs t n phrase
      (State.reply_of_outOfRange (h.imp (fun hn => by rw [hn]; rfl) not_isDriverPhrase_iff.mpr))
  · exact exec_reply_of_takes hs t n phrase (State.reply_of_notHeld (hnumber hn) (hphrase hlo hhi) h)
  · exact exec_reply_of_takes hs t n phrase (State.reply_of_refusal (hnumber hn) (hphrase hlo hhi) h
      (State.replyRefusal_of_unanswerable hx))
  · exact exec_reply_of_takes hs t n phrase (State.reply_of_refusal (hnumber hn) (hphrase hlo hhi) h
      (State.replyRefusal_of_noBook hx hg hb))
  · exact exec_reply_of_takes hs t n phrase (State.reply_of_refusal (hnumber hn) (hphrase hlo hhi) h
      ((State.replyRefusal_of_book hx hg hb).trans (if_neg hp)))
  · rw [exec_reply_of_takes hs t n phrase (State.reply_of_passes (hnumber hn) (hphrase hlo hhi) h
      ((State.replyRefusal_of_book hx hg hb).trans (if_pos hp))), huplink]
    dsimp only
    split_ifs <;> rfl
  · exact exec_send_of_takes hs t phrase (State.send_of_outOfRange (not_isDriverPhrase_iff.mpr h))
  · rw [exec_send_of_takes hs t phrase (State.send_of_inRange (hphrase hlo hhi)), huplink]
    dsimp only
    split_ifs <;> rfl

end
end

section
/-!
PROOFS. Chapter 11, the check of a staged image (R190): the bytes it is taken over, its start, and its rule per byte.
-/

namespace Sys2Proof.Machine

/-! ## The bytes of an image in offset order -/

theorem Memory.readAll_eq_map_range' (m : Memory) (offset count : Nat) :
    m.readAll offset count = (List.range' offset count).map m.read := by
  induction count generalizing offset with
  | zero => rfl
  | succ count ih => rw [Memory.readAll, ih, List.range'_succ, List.map_cons]

theorem Staged.check_eq (g : Staged) :
    g.check = checkOf ((List.range g.kind.length).map g.image.read) := by
  rw [Staged.check, Memory.readAll_eq_map_range', List.range_eq_range']

/-! ## The rule per byte (R190) -/

theorem checkOf_append_singleton (bytes : List Byte) (b : Byte) :
    checkOf (bytes ++ [b]) = checkStep (checkOf bytes) b := by
  rw [checkOf, List.foldl_concat, checkOf]

/-- The rotation as arithmetic: the doubled check within 16 bits is even, so the most significant bit is added
at the place it leaves free. -/
theorem toNat_rotateLeft_one (check : BitVec 16) :
    (check.rotateLeft 1).toNat = check.toNat * 2 % 65536 + check.toNat / 32768 := by
  have htop : check.toNat / 32768 < 2 ^ 1 := by omega
  have hlow : check.toNat * 2 % 65536 = 2 ^ 1 * (check.toNat % 32768) := by omega
  calc (check.rotateLeft 1).toNat
      = check.toNat <<< 1 % 65536 ||| check.toNat >>> 15 := BitVec.toNat_rotateLeft
    _ = check.toNat * 2 % 65536 ||| check.toNat / 32768 := by
      rw [Nat.shiftLeft_eq, Nat.shiftRight_eq_div_pow, Nat.pow_one]
    _ = check.toNat * 2 % 65536 + check.toNat / 32768 := by
      rw [hlow, Nat.two_pow_add_eq_or_of_lt htop]

theorem checkStep_toNat (check : BitVec 16) (b : Byte) :
    (checkStep check b).toNat = (check.toNat * 2 % 65536 + check.toNat / 32768) ^^^ b.toNat := by
  rw [checkStep, BitVec.toNat_xor, toNat_rotateLeft_one,
    BitVec.toNat_setWidth_of_le (by decide : 8 ≤ 16)]

end Sys2Proof.Machine

section

open Sys2Proof Sys2Proof.Machine

/-- Settles O44: the check runs over the image's bytes in offset order, and each byte is one rotation and one
exclusive-or (R190). -/
theorem checkOfImage : Obligations.CheckOfImage := by
  refine ⟨Staged.check_eq, rfl, fun bytes b => ?_, by decide, by decide, by decide⟩
  rw [checkOf_append_singleton, checkStep_toNat]

end
end

section
/-!
PROOFS. What the parts of a command can do to the outgoing list of the cab port and to the Uplink Scheduler, said
once for the statements that hold of every command.
-/

namespace Sys2Proof.Machine

/-! ## The outgoing list (R204, R205) -/

/-- A change of the cab port that adds no response, keeps room for the notices and lets no frame wait on a free
CTXD. -/
structure CabPort.Orderly (c c' : CabPort) : Prop where
  responses : c'.responses ≤ c.responses
  notices : c.notices ≤ Config.noticesMax → c'.notices ≤ Config.noticesMax
  served : c.CtxdServed → c'.CtxdServed

/-- Assembly, the mask and the counts are no part of the outgoing list. -/
theorem CabPort.Orderly.of_eq {c c' : CabPort} (hw : c'.waiting = c.waiting) (hs : c'.sending = c.sending) :
    c.Orderly c' where
  responses := by simp only [CabPort.responses, hw, le_refl]
  notices := by simp only [CabPort.notices, hw, imp_self]
  served := by simp only [CabPort.CtxdServed, hw, hs, imp_self]

/-- A change of the cab port that notices alone make: a frame being sent goes on being sent, with no response more or
less, and on a free CTXD with nothing waiting either nothing has joined or a notice is being sent. The overrun mark
is set only while four responses wait (R205). -/
structure CabPort.Noticed (c c' : CabPort) : Prop extends c.Orderly c' where
  mark : c.responses < Config.responsesMax → c'.overrunMark = c.overrunMark
  busy : c.sending ≠ none → c'.sending = c.sending ∧ c'.responses = c.responses
  free : c.sending = none → c.waiting = [] →
    c'.responses = 0
      ∧ ((c'.sending = none ∧ c'.waiting = []) ∨ ∃ notice, c'.sending = some (frameBytes 0x81 notice))

theorem CabPort.Noticed.of_eq {c c' : CabPort} (hw : c'.waiting = c.waiting) (hs : c'.sending = c.sending)
    (hm : c.responses < Config.responsesMax → c'.overrunMark = c.overrunMark) : c.Noticed c' where
  toOrderly := .of_eq hw hs
  mark := hm
  busy := fun _ => ⟨hs, by simp only [CabPort.responses, hw]⟩
  free := fun hfree hnil =>
    ⟨by simp only [CabPort.responses, hw, hnil, List.countP_nil], .inl ⟨hs.trans hfree, hw.trans hnil⟩⟩

theorem CabPort.Orderly.trans {c c' c'' : CabPort} (h : c.Orderly c') (h' : c'.Orderly c'') : c.Orderly c'' :=
  ⟨h'.responses.trans h.responses, h'.notices ∘ h.notices, h'.served ∘ h.served⟩

theorem CabPort.Noticed.trans {c c' c'' : CabPort} (h : c.Noticed c') (h' : c'.Noticed c'') : c.Noticed c'' where
  toOrderly := h.toOrderly.trans h'.toOrderly
  mark := fun hr => (h'.mark (h.responses.trans_lt hr)).trans (h.mark hr)
  busy := fun hs => by
    obtain ⟨hsending, hresponses⟩ := h.busy hs
    obtain ⟨hsending', hresponses'⟩ := h'.busy (hsending ▸ hs)
    exact ⟨hsending'.trans hsending, hresponses'.trans hresponses⟩
  free := fun hs hw => by
    obtain ⟨hnone, ⟨hfree, hnil⟩ | ⟨notice, hn⟩⟩ := h.free hs hw
    · exact h'.free hfree hnil
    · obtain ⟨hsending, hresponses⟩ := h'.busy (hn ▸ Option.some_ne_none _)
      exact ⟨hresponses.trans hnone, .inr ⟨notice, hsending.trans hn⟩⟩

/-- What of a RESPONSE is still to leave is no notice. -/
theorem OutFrame.rest_notices (f : OutFrame) : f.rest.countP (fun g => !g.isResponse) = 0 := by
  cases f with
  | response kind code mark result =>
    by_cases h : Config.resultMax < result.length <;> simp [OutFrame.rest, h, OutFrame.isResponse]
  | notice => rfl

theorem CabPort.pump_notices (c : CabPort) : c.pump.notices ≤ c.notices := by
  unfold CabPort.pump
  split
  · rename_i f rest _ hw
    simp only [CabPort.notices, (CabPort.begin_spec { c with waiting := rest } f).2, hw, List.countP_append,
      List.countP_cons, f.rest_notices]
    omega
  · exact le_rfl

theorem CabPort.join_responses (c : CabPort) (f : OutFrame) :
    (c.join f).responses ≤ c.responses + [f].countP OutFrame.isResponse := by
  refine (CabPort.pump_responses _).trans ?_
  rw [CabPort.responses, List.countP_append, CabPort.responses]

theorem CabPort.join_notices (c : CabPort) (f : OutFrame) :
    (c.join f).notices ≤ c.notices + [f].countP (fun g => !g.isResponse) := by
  refine (CabPort.pump_notices _).trans ?_
  rw [CabPort.notices, List.countP_append, CabPort.notices]

/-- The oldest notice leaves a full list: one notice less waits, and the responses stay. -/
theorem CabPort.dropNotice_counts {l : List OutFrame} (h : 0 < l.countP (fun g => !g.isResponse)) :
    (l.eraseP (fun g => !g.isResponse)).countP (fun g => !g.isResponse) + 1
        = l.countP (fun g => !g.isResponse)
      ∧ (l.eraseP (fun g => !g.isResponse)).countP OutFrame.isResponse = l.countP OutFrame.isResponse := by
  obtain ⟨g, hg, hn⟩ := List.countP_pos_iff.mp h
  obtain ⟨a, l1, l2, -, ha, rfl, he⟩ :=
    List.exists_of_eraseP (p := fun g : OutFrame => !g.isResponse) hg hn
  have ha' : a.isResponse = false := by simpa using ha
  rw [he]
  constructor
  · simp [ha']
    omega
  · simp [ha']

theorem CabPort.joinNotice_orderly (c : CabPort) (kind : NoticeKind) (cause : Byte) (summary : List Byte) :
    c.Orderly (c.joinNotice (.notice kind cause summary)) := by
  unfold CabPort.joinNotice
  split
  · rename_i hfull
    have hcounts := CabPort.dropNotice_counts (l := c.waiting)
      (lt_of_lt_of_le (by decide : 0 < Config.noticesMax) hfull)
    refine ⟨(CabPort.join_responses _ _).trans ?_, fun h => (CabPort.join_notices _ _).trans ?_,
      fun _ => CabPort.join_served _ _⟩
    · exact hcounts.2.le
    · exact hcounts.1.le.trans h
  · rename_i hroom
    refine ⟨CabPort.join_responses _ _, fun _ => (CabPort.join_notices _ _).trans ?_,
      fun _ => CabPort.join_served _ _⟩
    exact Nat.lt_of_not_le hroom

theorem CabPort.begin_mark (c : CabPort) (f : OutFrame) : (c.begin f).overrunMark = c.overrunMark := by
  cases f <;> rfl

theorem CabPort.join_mark (c : CabPort) (f : OutFrame) : (c.join f).overrunMark = c.overrunMark := by
  rw [CabPort.join, CabPort.pump]
  split
  · exact CabPort.begin_mark _ _
  · rfl

/-- While a frame is being sent the others wait. -/
theorem CabPort.join_of_busy {c : CabPort} (h : c.sending ≠ none) (f : OutFrame) :
    c.join f = { c with waiting := c.waiting ++ [f] } := by
  rw [CabPort.join, CabPort.pump]
  split
  · contradiction
  · rfl

theorem CabPort.join_notice_of_busy {c : CabPort} (h : c.sending ≠ none) (kind : NoticeKind) (cause : Byte)
    (summary : List Byte) :
    (c.join (.notice kind cause summary)).sending = c.sending
      ∧ (c.join (.notice kind cause summary)).responses = c.responses := by
  rw [CabPort.join_of_busy h, CabPort.responses, CabPort.responses, List.countP_append]
  exact ⟨rfl, rfl⟩

/-- On a free CTXD with nothing waiting a frame leaves at once. -/
theorem CabPort.join_of_free {c : CabPort} (hs : c.sending = none) (hw : c.waiting = []) (f : OutFrame) :
    c.join f = c.begin f := by
  obtain ⟨assembly, sending, waiting, mask, lost, overrun, mark, dropped⟩ := c
  obtain rfl : sending = none := hs
  obtain rfl : waiting = [] := hw
  rfl

theorem CabPort.joinNotice_noticed (c : CabPort) (kind : NoticeKind) (cause : Byte) (summary : List Byte) :
    c.Noticed (c.joinNotice (.notice kind cause summary)) where
  toOrderly := c.joinNotice_orderly kind cause summary
  mark := fun _ => by
    unfold CabPort.joinNotice
    split <;> exact CabPort.join_mark _ _
  busy := fun hs => by
    unfold CabPort.joinNotice
    split
    · rename_i hfull
      have hcounts := CabPort.dropNotice_counts (l := c.waiting)
        (lt_of_lt_of_le (by decide : 0 < Config.noticesMax) hfull)
      obtain ⟨hsending, hresponses⟩ := CabPort.join_notice_of_busy (c := { c with
        waiting := c.waiting.eraseP (fun g => !g.isResponse)
        noticesLost := countUp c.noticesLost
        droppedSince := min 255 (c.droppedSince + 1) }) hs kind cause summary
      exact ⟨hsending, hresponses.trans hcounts.2⟩
    · exact CabPort.join_notice_of_busy hs kind cause summary
  free := fun hs hw => by
    have hroom : ¬ Config.noticesMax ≤ c.notices := by
      rw [CabPort.notices, hw]
      decide
    rw [CabPort.joinNotice, if_neg hroom, CabPort.join_of_free hs hw]
    exact ⟨congrArg (List.countP OutFrame.isResponse) hw, .inr ⟨_, rfl⟩⟩

theorem State.raise_eq (s : State) (kind : NoticeKind) (cause : Nat) (summary : List Byte) :
    ∃ c, s.cab.Noticed c ∧ s.raise kind cause summary = s.setCab c := by
  unfold State.raise
  split
  · exact ⟨_, s.cab.joinNotice_noticed .., rfl⟩
  · exact ⟨s.cab, .of_eq rfl rfl fun _ => rfl, rfl⟩

theorem State.frameSent_eq (s : State) : ∃ c, s.cab.Orderly c ∧ s.frameSent = s.setCab c := by
  unfold State.frameSent
  split
  · exact ⟨CabPort.pump { s.cab with sending := none },
      ⟨CabPort.pump_responses _, fun h => (CabPort.pump_notices _).trans h, fun _ => CabPort.pump_served _⟩,
      rfl⟩
  · exact ⟨s.cab, .of_eq rfl rfl, rfl⟩

/-! ## The Uplink Scheduler: what every one of its operations keeps -/

/-- The entries of a queue by kind. -/
def kinds (queue : List Entry) : List UplinkKind := queue.map (fun e => e.kind)

theorem kinds_markFirst (test : Entry → Bool) (mark : EntryMark) (queue : List Entry) :
    kinds (markFirst test mark queue) = kinds queue := by
  induction queue with
  | nil => rfl
  | cons e rest ih =>
    unfold markFirst
    split
    · rfl
    · exact congrArg (e.kind :: ·) ih

theorem kinds_markAt (mark : EntryMark) (queue : List Entry) (index : Nat) :
    kinds (markAt mark queue index) = kinds queue := by
  induction queue generalizing index with
  | nil => rfl
  | cons e rest ih =>
    cases index with
    | zero => rfl
    | succ n => exact congrArg (e.kind :: ·) (ih n)

theorem kinds_holdFirst (release : Nat) (queue : List Entry) :
    kinds (holdFirst release queue) = kinds queue := by
  induction queue with
  | nil => rfl
  | cons e rest ih =>
    unfold holdFirst
    split
    · rfl
    · exact congrArg (e.kind :: ·) ih

theorem kinds_replaceBody (kind : UplinkKind) (body : List Byte) (queue : List Entry) :
    kinds (replaceBody kind body queue) = kinds queue := by
  induction queue with
  | nil => rfl
  | cons e rest ih =>
    unfold replaceBody
    split
    · rfl
    · exact congrArg (e.kind :: ·) ih

theorem kinds_countAttempt (queue : List Entry) : kinds (countAttempt queue) = kinds queue := by
  simp only [kinds, countAttempt, List.map_map]
  refine List.map_congr_left fun e _ => ?_
  simp only [Function.comp]
  split <;> rfl

/-- The receive buffer is as it was, or its delivery is abandoned (R2). -/
def State.Abandons (s s' : State) : Prop := s'.air.rx = s.air.rx ∨ s'.air.rx = none

theorem State.Abandons.of_eq {s s' : State} (h : s'.air = s.air) : s.Abandons s' := .inl (by rw [h])

theorem State.Abandons.trans {s s' s'' : State} (h : s.Abandons s') (h' : s'.Abandons s'') : s.Abandons s'' := by
  rcases h' with h' | h'
  · exact h.imp h'.trans h'.trans
  · exact .inr h'

/-- What every operation of the Uplink Scheduler keeps: the parts outside its reach, the room of the queue, the
absence of BIDs during a call, a transmission on air, and that an access begins only while the link is LOCKED; it
opens no delivery. -/
structure State.RadioStep (s s' : State) : Prop where
  work : s.radioWork s'
  room : s.uls.queue.length ≤ Config.queueMax → s'.uls.queue.length ≤ Config.queueMax
  bids : UplinkKind.bid ∈ kinds s'.uls.queue → s.emu.inCall = false ∨ UplinkKind.bid ∈ kinds s.uls.queue
  onAir : ∀ tx, s.uls.sched = .onAir tx → s'.uls.sched = .onAir tx
  access : s'.uls.sched.inAccess = true → s.uls.sched.inAccess = true ∨ s.link.mode = .locked
  rx : s.Abandons s'

theorem State.radioWork.emu {s s' : State} (h : s.radioWork s') : s'.emu = s.emu := by rw [h]

theorem State.radioWork.linkMode {s s' : State} (h : s.radioWork s') : s'.link.mode = s.link.mode := by rw [h]

theorem State.RadioStep.refl (s : State) : s.RadioStep s :=
  ⟨rfl, id, .inr, fun _ h => h, .inl, .inl rfl⟩

theorem State.RadioStep.trans {s s' s'' : State} (h : s.RadioStep s') (h' : s'.RadioStep s'') :
    s.RadioStep s'' where
  work := h.work.trans h'.work
  room := h'.room ∘ h.room
  bids hb := (h'.bids hb).elim (fun hc => .inl (h.work.emu ▸ hc)) h.bids
  onAir tx ht := h'.onAir tx (h.onAir tx ht)
  access ha := (h'.access ha).elim h.access (fun hl => .inr (h.work.linkMode ▸ hl))
  rx := h.rx.trans h'.rx

/-- A change of the queue that adds no entry and no kind. -/
theorem State.RadioStep.of_queue {s : State} {u : Uls} (hs : u.sched = s.uls.sched)
    (hk : (kinds u.queue).Sublist (kinds s.uls.queue)) : s.RadioStep (s.setUls u) where
  work := rfl
  room h := by simpa [kinds] using hk.length_le.trans (by simpa [kinds] using h)
  bids hb := .inr (hk.subset hb)
  onAir tx ht := hs.trans ht
  access ha := .inl (hs ▸ ha)
  rx := .inl rfl

/-- A change of the queue that leaves the kinds of its entries. -/
theorem State.RadioStep.of_kinds_eq {s : State} {u : Uls} (hs : u.sched = s.uls.sched)
    (hk : kinds u.queue = kinds s.uls.queue) : s.RadioStep (s.setUls u) :=
  .of_queue hs (hk ▸ List.Sublist.refl _)

theorem kinds_sublist {queue queue' : List Entry} (h : queue'.Sublist queue) :
    (kinds queue').Sublist (kinds queue) := h.map _

/-- An operation that no transmission on air meets, and that leaves the kinds of the queue. -/
theorem State.RadioStep.of_kinds {s s' : State} (hw : s.radioWork s')
    (hk : kinds s'.uls.queue = kinds s.uls.queue) (ha : ∀ tx, s.uls.sched ≠ .onAir tx)
    (hl : s'.uls.sched.inAccess = true → s.uls.sched.inAccess = true ∨ s.link.mode = .locked)
    (hx : s.Abandons s') : s.RadioStep s' where
  work := hw
  room h := by
    have := congrArg List.length hk
    simp only [kinds, List.length_map] at this
    exact this.le.trans h
  bids hb := .inr (hk ▸ hb)
  onAir tx ht := (ha tx ht).elim
  access := hl
  rx := hx

theorem State.endAccess_of_access {s : State} (h : s.uls.sched.inAccess = true) :
    s.endAccess =
      s.setUls { s.uls with sched := .idle, queue := markFirst Entry.isCandidate .waiting s.uls.queue } := by
  unfold State.endAccess
  split
  · rfl
  · rfl
  · rename_i hc hb
    cases hs : s.uls.sched with
    | idle => rw [hs] at h; cases h
    | clearing cand expiry => exact (hc _ _ hs).elim
    | backoff cand ends => exact (hb _ _ hs).elim
    | onAir tx => rw [hs] at h; cases h

theorem State.endAccess_of_no_access {s : State} (h : s.uls.sched.inAccess = false) : s.endAccess = s := by
  unfold State.endAccess
  split
  · rename_i hs; rw [hs] at h; cases h
  · rename_i hs; rw [hs] at h; cases h
  · rfl

theorem State.endAccess_kinds (s : State) : kinds s.endAccess.uls.queue = kinds s.uls.queue := by
  by_cases h : s.uls.sched.inAccess = true
  · rw [State.endAccess_of_access h]
    exact kinds_markFirst ..
  · rw [State.endAccess_of_no_access (Bool.eq_false_of_not_eq_true h)]

theorem State.endAccess_rx (s : State) : s.Abandons s.endAccess := by
  by_cases h : s.uls.sched.inAccess = true
  · rw [State.endAccess_of_access h]
    exact .inl rfl
  · rw [State.endAccess_of_no_access (Bool.eq_false_of_not_eq_true h)]
    exact .inl rfl

theorem State.endAccess_inAccess (s : State) : s.endAccess.uls.sched.inAccess = false := by
  by_cases h : s.uls.sched.inAccess = true
  · rw [State.endAccess_of_access h]
    rfl
  · rw [State.endAccess_of_no_access (Bool.eq_false_of_not_eq_true h)]
    exact Bool.eq_false_of_not_eq_true h

theorem State.endAccess_radioStep (s : State) : s.RadioStep s.endAccess := by
  by_cases h : s.uls.sched.inAccess = true
  · refine .of_kinds s.endAccess_radioWork s.endAccess_kinds (fun tx ht => ?_) (fun _ => .inl h) s.endAccess_rx
    rw [ht] at h
    cases h
  · rw [State.endAccess_of_no_access (Bool.eq_false_of_not_eq_true h)]
    exact .refl s

/-! ## Kinds through an access -/

theorem State.startCand_kinds (s : State) (cand : Cand) :
    kinds (s.startCand cand).uls.queue = kinds s.uls.queue := by
  unfold State.startCand
  split
  · split
    · exact kinds_markFirst ..
    · exact s.endAccess_kinds
  · split
    · rfl
    · exact s.endAccess_kinds
  · rfl

theorem State.finishBackoff_kinds (s : State) (cand : Cand) :
    kinds (s.finishBackoff cand).uls.queue = kinds s.uls.queue := by
  unfold State.finishBackoff
  split
  · split
    · exact s.startCand_kinds cand
    · exact s.endAccess_kinds
  · exact s.endAccess_kinds

@[simp] theorem State.setUls_op (s : State) (u : Uls) : (s.setUls u).op = s.op := rfl

@[simp] theorem State.setUls_now (s : State) (u : Uls) : (s.setUls u).now = s.now := rfl

/-- The slots of the backoff that a draw taken now gives (R44, R45). -/
def State.drawnSlots (s : State) : Nat := drawValue (nextRng s.uls.rng) % s.op.clampWindow s.uls.window

/-- The state in BACKOFF after the draw (R44, R53). -/
def State.inBackoff (s : State) (cand : Cand) : State :=
  s.setUls
    { s.uls with
      window := s.op.clampWindow s.uls.window
      rng := nextRng s.uls.rng
      sched := .backoff cand (s.now + s.drawnSlots * s.op.slot) }

theorem State.enterBackoff_eq (s : State) (cand : Cand) :
    s.enterBackoff cand =
      if s.drawnSlots = 0 then (s.inBackoff cand).finishBackoff cand else s.inBackoff cand := by
  simp only [State.enterBackoff, State.draw, State.setUls_uls, State.setUls_setUls, State.setUls_op,
    State.setUls_now, State.inBackoff, State.drawnSlots]
  split_ifs
  · rfl
  · rfl

theorem State.inBackoff_queue (s : State) (cand : Cand) : (s.inBackoff cand).uls.queue = s.uls.queue := by
  rw [State.inBackoff, State.setUls_uls]

theorem State.enterBackoff_kinds (s : State) (cand : Cand) :
    kinds (s.enterBackoff cand).uls.queue = kinds s.uls.queue := by
  rw [State.enterBackoff_eq]
  split
  · rw [State.finishBackoff_kinds, State.inBackoff_queue]
  · rw [State.inBackoff_queue]

theorem State.beginClear_kinds (s : State) (cand : Cand) :
    kinds (s.beginClear cand).uls.queue = kinds s.uls.queue := by
  unfold State.beginClear
  simp only
  split
  · exact State.enterBackoff_kinds _ cand
  · rfl

theorem State.enterClearing_kinds (s : State) (cand : Cand) :
    kinds (s.enterClearing cand).uls.queue = kinds s.uls.queue := by
  unfold State.enterClearing
  split
  · rfl
  · exact s.beginClear_kinds cand

theorem State.beginAccess_kinds (s : State) (pick : Pick) :
    kinds (s.beginAccess pick).uls.queue = kinds s.uls.queue := by
  cases pick with
  | entry index => exact (State.enterClearing_kinds _ _).trans (kinds_markAt ..)
  | trip => exact s.enterClearing_kinds _
  | beacon => exact s.enterClearing_kinds _

theorem State.choose_of_not {s : State} (h : ¬ (s.uls.sched = .idle ∧ s.link.mode = .locked)) : s.choose = s := by
  simp only [State.choose, h, if_false]

theorem State.choose_kinds (s : State) : kinds s.choose.uls.queue = kinds s.uls.queue := by
  unfold State.choose
  split
  · split
    · exact s.beginAccess_kinds _
    · rfl
  · rfl

/-! ## The open delivery through an access (R2) -/

theorem State.startCand_rx (s : State) (cand : Cand) : s.Abandons (s.startCand cand) := by
  unfold State.startCand
  split
  · split
    · exact .inr rfl
    · exact s.endAccess_rx
  · split
    · exact .inr rfl
    · exact s.endAccess_rx
  · exact .inr rfl

theorem State.finishBackoff_rx (s : State) (cand : Cand) : s.Abandons (s.finishBackoff cand) := by
  unfold State.finishBackoff
  split
  · split
    · exact s.startCand_rx cand
    · exact s.endAccess_rx
  · exact s.endAccess_rx

theorem State.enterBackoff_rx (s : State) (cand : Cand) : s.Abandons (s.enterBackoff cand) := by
  have hin : s.Abandons (s.inBackoff cand) := .of_eq (by rw [State.inBackoff, State.setUls_air])
  rw [State.enterBackoff_eq]
  split
  · exact hin.trans (State.finishBackoff_rx _ cand)
  · exact hin

theorem State.beginClear_rx (s : State) (cand : Cand) : s.Abandons (s.beginClear cand) := by
  unfold State.beginClear
  simp only
  split
  · exact State.Abandons.trans (s' := s.setUls _) (.inl rfl) (State.enterBackoff_rx _ cand)
  · exact .inl rfl

theorem State.enterClearing_rx (s : State) (cand : Cand) : s.Abandons (s.enterClearing cand) := by
  unfold State.enterClearing
  split
  · exact .inl rfl
  · exact s.beginClear_rx cand

theorem State.beginAccess_rx (s : State) (pick : Pick) : s.Abandons (s.beginAccess pick) := by
  cases pick with
  | entry index => exact State.Abandons.trans (s' := s.setUls _) (.inl rfl) (State.enterClearing_rx _ _)
  | trip => exact s.enterClearing_rx _
  | beacon => exact s.enterClearing_rx _

theorem State.choose_rx (s : State) : s.Abandons s.choose := by
  unfold State.choose
  split
  · split
    · exact s.beginAccess_rx _
    · exact .inl rfl
  · exact .inl rfl

/-! ## The operations of the scheduler -/

theorem State.choose_radioStep (s : State) : s.RadioStep s.choose := by
  by_cases h : s.uls.sched = .idle ∧ s.link.mode = .locked
  · refine .of_kinds s.choose_radioWork s.choose_kinds (fun tx ht => ?_) (fun _ => .inr h.2) s.choose_rx
    rw [h.1] at ht
    cases ht
  · rw [State.choose_of_not h]
    exact .refl s

theorem State.dropEntries_radioStep (s : State) (test : Entry → Bool) : s.RadioStep (s.dropEntries test) := by
  have hfilter : s.RadioStep (s.setUls { s.uls with queue := s.uls.queue.filter (fun e => !test e) }) :=
    .of_queue rfl (kinds_sublist List.filter_sublist)
  unfold State.dropEntries
  simp only
  split
  · exact hfilter.trans (State.endAccess_radioStep _)
  · exact hfilter

theorem State.removeEntries_radioStep (s : State) (test : Entry → Bool) :
    s.RadioStep (s.removeEntries test) := by
  unfold State.removeEntries
  split
  · exact (s.dropEntries_radioStep test).trans (State.choose_radioStep _)
  · exact .refl s

/-- What a removal leaves are entries of the queue before it, by kind, and none that satisfies the test when the
test reads the kind alone. -/
theorem State.dropEntries_kinds (s : State) (test : Entry → Bool) :
    kinds (s.dropEntries test).uls.queue = kinds (s.uls.queue.filter (fun e => !test e)) := by
  unfold State.dropEntries
  simp only
  split
  · exact State.endAccess_kinds _
  · rfl

theorem State.removeBids_no_bid (s : State) : UplinkKind.bid ∉ kinds s.removeBids.uls.queue := by
  unfold State.removeBids State.removeEntries
  split
  · rw [State.choose_kinds, State.dropEntries_kinds]
    simp [kinds, Entry.isBid]
  · rename_i h
    simpa [kinds, Entry.isBid] using h

theorem latestOfLevel_lt {level : Nat} {queue : List Entry} {base index : Nat}
    (h : latestOfLevel level base queue = some index) : base ≤ index ∧ index < base + queue.length := by
  induction queue generalizing base with
  | nil => cases h
  | cons e rest ih =>
    unfold latestOfLevel at h
    simp only [List.length_cons]
    split at h
    · rename_i j hj
      cases h
      have := ih hj
      omega
    · split at h
      · cases h
        omega
      · cases h

theorem Uls.displaceable_lt {u : Uls} {level index : Nat} (h : u.displaceable level = some index) :
    index < u.queue.length := by
  unfold Uls.displaceable at h
  split at h
  · split at h
    · simpa using (latestOfLevel_lt h).2
    · cases h
  · cases h

/-- The entry at a place leaves the queue, and its access ends with it. -/
theorem State.displaceAt_radioStep (s : State) (index : Nat) : s.RadioStep (s.displaceAt index) := by
  have herase : ∀ q : State,
      q.RadioStep (q.setUls { q.uls with queue := q.uls.queue.eraseIdx index }) :=
    fun q => .of_queue rfl (kinds_sublist (List.eraseIdx_sublist ..))
  unfold State.displaceAt
  simp only
  split
  · exact s.endAccess_radioStep.trans (herase _)
  · exact herase s

theorem State.displaceAt_length {s : State} {index : Nat} (h : index < s.uls.queue.length) :
    (s.displaceAt index).uls.queue.length + 1 = s.uls.queue.length := by
  have hend : s.endAccess.uls.queue.length = s.uls.queue.length := by
    simpa [kinds] using congrArg List.length s.endAccess_kinds
  unfold State.displaceAt
  simp only
  split
  · simp only [State.setUls_uls]
    rw [List.length_eraseIdx_of_lt (hend ▸ h), hend]
    omega
  · simp only [State.setUls_uls]
    rw [List.length_eraseIdx_of_lt h]
    omega

/-- An entry that is no BID of a call joins a queue that has room for it. -/
theorem State.RadioStep.append {s q : State} (h : s.RadioStep q) {e : Entry}
    (hb : e.kind = .bid → s.emu.inCall = false)
    (hroom : s.uls.queue.length ≤ Config.queueMax → q.uls.queue.length < Config.queueMax) :
    s.RadioStep (q.append e) where
  work := h.work.trans (State.setUls_radioWork _ _)
  room hs := by simpa [State.append] using hroom hs
  bids hk := by
    simp only [State.append, State.setUls_uls, kinds, List.map_append, List.mem_append] at hk
    rcases hk with hk | hk
    · exact h.bids hk
    · exact .inl (hb (by simpa using Eq.symm (List.mem_singleton.mp hk)))
  onAir := h.onAir
  access := h.access
  rx := h.rx

theorem State.joinNew_radioStep {s : State} {e : Entry} (hb : e.kind = .bid → s.emu.inCall = false) :
    s.RadioStep (s.joinNew e).state := by
  unfold State.joinNew
  split
  · rename_i hroom
    exact ((State.RadioStep.refl s).append hb fun _ => hroom).trans (State.choose_radioStep _)
  · split
    · rename_i index hd
      have hstep : s.RadioStep (s.displaceAt index).countDisplaced :=
        (s.displaceAt_radioStep index).trans (.of_queue rfl (List.Sublist.refl _))
      refine (hstep.append hb fun hs => ?_).trans (State.choose_radioStep _)
      have : (s.displaceAt index).countDisplaced.uls.queue.length + 1 = s.uls.queue.length :=
        State.displaceAt_length (Uls.displaceable_lt hd)
      omega
    · exact .of_queue rfl (List.Sublist.refl _)

theorem State.join_radioStep {s : State} {kind : UplinkKind} (hb : kind = .bid → s.emu.inCall = false)
    (body : List Byte) (bid : Option BidTimes) : s.RadioStep (s.join kind body bid).state := by
  unfold State.join
  split
  · split
    · refine State.RadioStep.trans ?_ (State.choose_radioStep _)
      exact .of_kinds_eq rfl (kinds_replaceBody ..)
    · refine State.RadioStep.trans ?_ (State.joinNew_radioStep hb)
      exact .of_queue rfl (kinds_sublist List.filter_sublist)
  · exact State.joinNew_radioStep hb

/-- Every uplink but a BID is queued in a call too. -/
theorem State.queue_radioStep (s : State) {kind : UplinkKind} (hk : kind ≠ .bid) (body : List Byte) :
    s.RadioStep (s.queue kind body) :=
  State.join_radioStep (fun h => (hk h).elim) body none

theorem State.placeBid_radioStep {s : State} (h : s.emu.inCall = false) (e : OfferEntry) (slot : Nat) :
    s.RadioStep (s.placeBid e slot) :=
  State.join_radioStep (fun _ => h) _ _

theorem State.dropBeacon_radioStep (s : State) : s.RadioStep s.dropBeacon := by
  unfold State.dropBeacon
  split
  · exact s.endAccess_radioStep.trans (State.choose_radioStep _)
  · exact .refl s

theorem State.loseBid_radioStep (s : State) (test : Entry → Bool) : s.RadioStep (s.loseBid test) :=
  .of_queue rfl (kinds_sublist List.eraseP_sublist)

/-- A BID that is taken is sent only when nothing is on air (R48). -/
theorem State.releaseBid_radioStep (s : State) (release : Nat) : s.RadioStep (s.releaseBid release) := by
  unfold State.releaseBid
  split
  · rename_i e _
    split
    · rename_i b _
      split
      · rename_i hl
        split
        · rename_i hm
          refine .of_kinds ?_ ((State.endAccess_kinds _).trans (kinds_markFirst ..)) (fun tx ht => ?_)
            (fun _ => .inr hl) (.inr rfl)
          · exact (State.setUls_radioWork s _).trans
              ((State.endAccess_radioWork _).trans (State.key_radioWork _ _ _ _))
          · simp [State.bidMayStart, State.ptt, ht] at hm
        · exact (s.loseBid_radioStep _).trans (State.endAccess_radioStep _)
      · exact .of_kinds_eq rfl (kinds_holdFirst ..)
    · exact .refl s
  · exact .refl s

theorem State.bidDeadline_radioStep (s : State) : s.RadioStep s.bidDeadline := by
  unfold State.bidDeadline
  split
  · exact (s.loseBid_radioStep _).trans (State.choose_radioStep _)
  · exact .refl s

theorem State.busyChannel_radioStep (s : State) : s.RadioStep s.busyChannel := by
  unfold State.busyChannel
  simp only
  refine State.RadioStep.trans ?_ ((State.endAccess_radioStep _).trans (State.choose_radioStep _))
  split
  · refine State.RadioStep.trans ?_ (State.dropEntries_radioStep _ _)
    exact .of_kinds_eq (u := { s.uls with queue := countAttempt s.uls.queue, window := _, drops := _ }) rfl
      (kinds_countAttempt _)
  · exact .of_kinds_eq rfl (kinds_countAttempt _)

/-- A timer of an access acts in that access alone. -/
theorem State.RadioStep.of_access {s s' : State} (hw : s.radioWork s')
    (hk : kinds s'.uls.queue = kinds s.uls.queue) (ha : s.uls.sched.inAccess = true) (hx : s.Abandons s') :
    s.RadioStep s' := by
  refine .of_kinds hw hk (fun tx ht => ?_) (fun _ => .inl ha) hx
  rw [ht] at ha
  cases ha

theorem State.clearExpiry_radioStep (s : State) : s.RadioStep s.clearExpiry := by
  unfold State.clearExpiry
  split
  · rename_i hs
    split
    · exact (State.RadioStep.of_access (s.enterBackoff_radioWork _) (s.enterBackoff_kinds _)
        (hs ▸ rfl) (s.enterBackoff_rx _)).trans (State.choose_radioStep _)
    · exact .refl s
  · exact .refl s

theorem State.backoffEnd_radioStep (s : State) : s.RadioStep s.backoffEnd := by
  unfold State.backoffEnd
  split
  · rename_i hs
    split
    · exact (State.RadioStep.of_access (s.finishBackoff_radioWork _) (s.finishBackoff_kinds _)
        (hs ▸ rfl) (s.finishBackoff_rx _)).trans (State.choose_radioStep _)
    · exact .refl s
  · exact .refl s

theorem State.cdFall_radioStep (s : State) : (s.setCd false).RadioStep s.cdFall := by
  unfold State.cdFall
  simp only
  split
  · rename_i hs
    exact (State.RadioStep.of_access (State.beginClear_radioWork _ _) (State.beginClear_kinds _ _)
      (hs ▸ rfl) (State.beginClear_rx _ _)).trans (State.choose_radioStep _)
  · exact .refl _

theorem State.cdRise_radioStep (s : State) : (s.setCd true).RadioStep s.cdRise := by
  unfold State.cdRise
  simp only
  split
  · exact State.busyChannel_radioStep _
  · exact State.busyChannel_radioStep _
  · exact .refl _

theorem State.beaconDue_radioStep (s : State) : s.RadioStep s.beaconDue := by
  unfold State.beaconDue
  split
  · exact s.choose_radioStep
  · exact .refl s

/-- A step of the scheduler is one in every state with the same scheduler, link, receiver and call. -/
theorem State.RadioStep.congr {s s' q q' : State} (h : s.RadioStep s') (hc : s.emu.inCall = q.emu.inCall)
    (hu : s.uls = q.uls) (hl : s.link.mode = q.link.mode)
    (hu' : s'.uls = q'.uls) (hw : q.radioWork q') (hx : s.air = q.air) (hx' : s'.air = q'.air) :
    q.RadioStep q' where
  work := hw
  room := hu ▸ hu' ▸ h.room
  bids := hu ▸ hu' ▸ hc ▸ h.bids
  onAir := hu ▸ hu' ▸ h.onAir
  access := hu ▸ hu' ▸ hl ▸ h.access
  rx := by
    rw [State.Abandons, ← hx, ← hx']
    exact h.rx

end Sys2Proof.Machine
end

section
/-!
PROOFS. What a command can do to the state, said once: the moves its parts are made of, each with the guard under
which it is made, and the decomposition of every operation into them. The statements that hold of every command are
proved move by move.
-/

namespace Sys2Proof.Machine

/-- The moves of which the operations are made, each with what its maker has tested. `done` stands for the end of
what was being sent: of the air time of a transmission that completes, or of a frame on CTXD. -/
inductive State.Moves (done : Prop) : State → State → Prop
  | refl (s : State) : State.Moves done s s
  | trans {s s' s'' : State} : State.Moves done s s' → State.Moves done s' s'' → State.Moves done s s''
  | cab {s : State} {c : CabPort} : s.cab.Noticed c → State.Moves done s (s.setCab c)
  | sent {s : State} {c : CabPort} : done → s.cab.Orderly c → State.Moves done s (s.setCab c)
  /-- No delivery is opened. -/
  | air {s : State} {a : Air} : a.rx = s.air.rx ∨ a.rx = none → State.Moves done s (s.setAir a)
  | zone (s : State) (z : ZoneUnit) : State.Moves done s (s.setZone z)
  | radio {s s' : State} : s.RadioStep s' → State.Moves done s s'
  | finish (s : State) (window : Nat) : done →
      State.Moves done s (s.setUls { s.uls with window := window, sched := .idle })
  /-- The link leaves LOCKED only with no access in progress (R52). -/
  | link {s : State} {l : Link} :
      l.mode = s.link.mode ∨ l.mode = .locked ∨ s.link.mode ≠ .locked ∨ s.uls.sched.inAccess = false →
      State.Moves done s (s.setLink l)
  /-- Entries leave the offer table, or change in their places. -/
  | offers {s : State} {o : Offers} :
      (o.table.map (fun e => e.number)).Sublist (s.offers.table.map (fun e => e.number)) →
      State.Moves done s (s.setOffers o)
  /-- An entry joins the offer table, in place of another when the table is full (R72, R73). -/
  | addOffer {s : State} {l : List OfferEntry} {e : OfferEntry} {o : Offers} : o.table = l ++ [e] →
      l.Sublist s.offers.table →
      (s.offers.table.length ≤ Config.offersMax → l.length < Config.offersMax) →
      e.number ∉ s.offers.table.map (fun x => x.number) →
      s.dcu.barred = false → s.emu.overtCall = false → s.meter.mode ≠ .offShift →
      State.Moves done s (s.setOffers o)
  | joinActive {s : State} {j : Job} : s.jobs.active = none → s.jobs.holds j.number = false →
      j.state = .assigned → State.Moves done s (s.setJobs { s.jobs with active := some j })
  | joinQueued {s : State} {j : Job} : s.jobs.queued.length < Config.queuedMax →
      s.jobs.holds j.number = false → j.state = .assigned → j.arrived = none →
      State.Moves done s (s.setJobs { s.jobs with queued := s.jobs.queued ++ [j] })
  | promote {s : State} {j : Job} {rest : List Job} : s.jobs.active = none → s.jobs.queued = j :: rest →
      State.Moves done s (s.setJobs { active := some j, queued := rest })
  | arrive {s : State} {j : Job} (arrived : Option Nat) : s.jobs.active = some j → j.state = .assigned →
      State.Moves done s
        (s.setJobs { s.jobs with active := some { j with state := .arrived, arrived := arrived } })
  /-- A job that is not ON-BOARD leaves the book with the messages linked to it (R99, R163). -/
  | leave {s : State} {b : JobBook} {m : Messages} {n : Nat} :
      b.active = s.jobs.active
        ∨ (b.active = none ∧ ∃ j, s.jobs.active = some j ∧ j.number = n ∧ j.state ≠ .onBoard) →
      b.queued = s.jobs.queued ∨ b.queued = s.jobs.queued.filter (fun j => j.number != n) →
      m.store.Sublist s.msgs.store → (∀ x ∈ m.store, x.linkedTo n = false) →
      State.Moves done s ((s.setJobs b).setMsgs m)
  | metres {s : State} {residue m : Nat} :
      (s.ResidueBelow → (s.setMeter { s.meter with residue := residue, m := m }).ResidueBelow) →
      State.Moves done s (s.setMeter { s.meter with residue := residue, m := m })
  /-- The trip in progress goes on. -/
  | trip {s : State} {p p' : Trip} : s.meter.trip = some p → p'.job = p.job → p.charged ≤ p'.charged →
      (s.ProgressBelow → (s.setMeter { s.meter with trip := some p' }).ProgressBelow) →
      State.Moves done s (s.setMeter { s.meter with trip := some p' })
  | pend {s : State} {b : Bank} : b.set.sound →
      State.Moves done s (s.setMeter { s.meter with pendingBank := some b, ready := true })
  | calibrate {s : State} {c : Calibration} : 500 ≤ c.k ∧ c.k ≤ 20000 ∧ 20 ≤ c.vmax ∧ c.vmax ≤ 100 →
      State.Moves done s (s.setMeter { s.meter with calibration := some c, residue := 0 })
  | trips {s : State} {t : Trips} : t.current.isSome = s.trips.current.isSome →
      (s.trips.ring → t.ring) → (s.Balanced → (s.setTrips t).Balanced) → State.Moves done s (s.setTrips t)
  /-- Messages leave the store, or change their state or lifetime in their places. -/
  | msgs {s : State} {m : Messages} :
      (m.store.map (fun x => x.number)).Sublist (s.msgs.store.map (fun x => x.number)) →
      (∀ x ∈ m.store, ∃ y ∈ s.msgs.store, x.text = y.text ∧ x.cls = y.cls ∧ x.job = y.job) →
      State.Moves done s (s.setMsgs m)
  /-- A message joins the store, in place of another when the store is full (R159, R161). -/
  | addMessage {s : State} {l : List Message} {x : Message} {m : Messages} : m.store = l ++ [x] →
      l.Sublist s.msgs.store → (s.msgs.store.length ≤ Config.storeMax → l.length < Config.storeMax) →
      x.number ∉ s.msgs.store.map (fun y => y.number) → x.text.positions.length ≤ 240 →
      (x.cls = .jobnote → ∃ n, x.job = some n ∧ s.jobs.holds n = true) → (x.cls ≠ .jobnote → x.job = none) →
      State.Moves done s (s.setMsgs m)
  /-- A call begins with no BID queued, and an overt one with no offer held (R86, R87). -/
  | emu {s : State} {e : Emergency} :
      (e.inCall = true → s.emu.inCall = true ∨ UplinkKind.bid ∉ kinds s.uls.queue) →
      (e.overtCall = true → s.emu.overtCall = true ∨ s.offers.table = []) →
      (s.CallShape → (s.setEmu e).CallShape) → State.Moves done s (s.setEmu e)
  /-- The cab is barred with no offer held (R86). -/
  | dcu {s : State} {d : Dcu} : (d.barred = true → s.dcu.barred = true ∨ s.offers.table = []) →
      (s.ClockInRange → (s.setDcu d).ClockInRange) → (s.StagedInside → (s.setDcu d).StagedInside) →
      State.Moves done s (s.setDcu d)

namespace State.Moves

variable {done : Prop} {s s' : State}

/-- What no move touches: the timer, the supply, the pins and the queue of commands. -/
theorem frame (h : s.Moves done s') :
    s'.ms = s.ms ∧ s'.vdd = s.vdd ∧ s'.vbakLatch = s.vbakLatch ∧ s'.cd = s.cd ∧ s'.calen = s.calen
      ∧ s'.pending = s.pending := by
  induction h with
  | trans _ _ ih ih' =>
    obtain ⟨h1, h2, h3, h4, h5, h6⟩ := ih
    obtain ⟨k1, k2, k3, k4, k5, k6⟩ := ih'
    exact ⟨k1.trans h1, k2.trans h2, k3.trans h3, k4.trans h4, k5.trans h5, k6.trans h6⟩
  | radio h => rw [h.work]; exact ⟨rfl, rfl, rfl, rfl, rfl, rfl⟩
  | _ => exact ⟨rfl, rfl, rfl, rfl, rfl, rfl⟩

theorem responses (h : s.Moves done s') : s'.cab.responses ≤ s.cab.responses := by
  induction h with
  | trans _ _ ih ih' => exact ih'.trans ih
  | radio h => rw [h.work]
  | cab h => exact h.responses
  | sent _ h => exact h.responses
  | _ => exact le_rfl

theorem rx (h : s.Moves done s') : s.Abandons s' := by
  induction h with
  | trans _ _ ih ih' => exact ih.trans ih'
  | radio h => exact h.rx
  | air h => exact h
  | _ => exact .inl rfl

theorem mode (h : s.Moves done s') : s'.meter.mode = s.meter.mode := by
  induction h with
  | trans _ _ ih ih' => exact ih'.trans ih
  | radio h => rw [h.work]
  | _ => rfl

end State.Moves

/-! ## Notices and the scheduler -/

section

variable {done : Prop}

theorem State.raise_moves (s : State) (kind : NoticeKind) (cause : Nat) (summary : List Byte) :
    s.Moves done (s.raise kind cause summary) := by
  obtain ⟨c, hc, h⟩ := s.raise_eq kind cause summary
  rw [h]
  exact .cab hc

theorem State.queue_moves (s : State) {kind : UplinkKind} (hk : kind ≠ .bid) (body : List Byte) :
    s.Moves done (s.queue kind body) := .radio (s.queue_radioStep hk body)

theorem State.choose_moves (s : State) : s.Moves done s.choose := .radio s.choose_radioStep

theorem State.removeEntries_moves (s : State) (test : Entry → Bool) : s.Moves done (s.removeEntries test) :=
  .radio (s.removeEntries_radioStep test)

theorem State.afterReport_moves (s : State) (site : Nat) {r q : State} (h : r.Moves done q) :
    r.Moves done (s.afterReport site q) := by
  unfold State.afterReport
  split
  · exact h.trans q.choose_moves
  · exact h

/-! ## The Offer Controller -/

theorem State.setOffers_moves (s : State) {o : Offers} (h : o.table.Sublist s.offers.table) :
    s.Moves done (s.setOffers o) := .offers (h.map _)

theorem State.dropOffer_moves (s : State) (e : OfferEntry) (cause : OfferCause) :
    s.Moves done (s.dropOffer e cause) :=
  (s.setOffers_moves List.filter_sublist).trans (State.raise_moves _ _ _ _)

theorem State.emptyOffers_moves (s : State) : s.Moves done s.emptyOffers :=
  (s.setOffers_moves (List.nil_sublist _)).trans (State.removeEntries_moves _ _)

theorem State.foldl_moves {α : Type} {f : State → α → State} (hf : ∀ s a, State.Moves done s (f s a))
    (l : List α) (s : State) : s.Moves done (l.foldl f s) := by
  induction l generalizing s with
  | nil => exact .refl s
  | cons a rest ih => exact (hf s a).trans (ih _)

theorem State.pruneAccepted_moves (s : State) (e : OfferEntry) : s.Moves done (s.pruneAccepted e) :=
  (s.removeEntries_moves (Entry.bidFor e.number)).trans (State.dropOffer_moves _ e .hire)

theorem State.pruneOffers_moves (s : State) : s.Moves done s.pruneOffers :=
  (State.foldl_moves (f := State.pruneOffered) (fun s e => s.dropOffer_moves e .hire) _ s).trans
    (State.foldl_moves State.pruneAccepted_moves _ _)

theorem Offers.find_eq_none_iff {o : Offers} {number : Nat} :
    o.find number = none ↔ number ∉ o.table.map (fun e => e.number) := by
  simp [Offers.find]

/-- The conditions of R71 under which an offer is taken. -/
theorem State.open_of_eligible {s : State} {o : OfferBody} {cls : MatchClass} (h : s.eligible o cls = true) :
    s.dcu.barred = false ∧ s.emu.overtCall = false ∧ s.meter.mode ≠ .offShift := by
  simp only [State.eligible, Bool.and_eq_true, Bool.not_eq_true', bne_iff_ne] at h
  obtain ⟨⟨⟨⟨⟨⟨⟨hb, hm⟩, ho⟩, -⟩, -⟩, -⟩, -⟩, -⟩ := h
  exact ⟨hb, ho, hm⟩

theorem earliestOffered_mem {table : List OfferEntry} {e : OfferEntry} (h : earliestOffered table = some e) :
    e ∈ table ∧ e.state = .offered := by
  induction table with
  | nil => cases h
  | cons x rest ih =>
    unfold earliestOffered at h
    split at h
    · split at h
      · cases h
        exact ⟨List.mem_cons_self, by assumption⟩
      · cases h
    · rename_i r hr
      split at h
      · rename_i hx
        cases h
        exact ⟨List.mem_cons_self, hx.1⟩
      · cases h
        exact ⟨List.mem_cons_of_mem x (ih hr).1, (ih hr).2⟩

/-- A removal by number makes room for one entry more. -/
theorem Offers.remove_length_lt {o : Offers} {e : OfferEntry} (h : e ∈ o.table) :
    (o.remove e.number).table.length < o.table.length :=
  List.length_filter_lt_length_iff_exists.mpr ⟨e, h, by simp⟩

theorem State.takeEligible_moves {s : State} {o : OfferBody} {cls : MatchClass} (h : s.eligible o cls = true)
    (hn : s.offers.find o.number = none) : s.Moves done (s.takeEligible o) := by
  obtain ⟨hb, ho, hm⟩ := State.open_of_eligible h
  have hn' : (s.offerEntry o).number ∉ s.offers.table.map (fun x => x.number) := Offers.find_eq_none_iff.mp hn
  unfold State.takeEligible
  simp only
  split
  · rename_i hl
    exact (Moves.addOffer rfl (List.Sublist.refl _) (fun _ => hl) hn' hb ho hm).trans (State.raise_moves _ _ _ _)
  · split
    · rename_i old hold
      obtain ⟨c, hc, hraise⟩ := (s.displaceOffer.setOffers (s.displaceOffer.offers.remove old.number)).raise_eq
        .offer OfferCause.displaced.code
        (be 2 old.number ++ be 1 old.kind.code ++ optional 1 none ++ be 1 OfferCause.displaced.code)
      have hdrop : s.displaceOffer.dropOffer old .displaced =
          (s.displaceOffer.setOffers (s.displaceOffer.offers.remove old.number)).setCab c := hraise
      rw [hdrop]
      refine .trans (.cab (c := c) hc) (.trans ?_ (State.raise_moves _ _ _ _))
      exact Moves.addOffer (s := s.setCab c) (l := (s.offers.remove old.number).table) rfl
        List.filter_sublist
        (fun hl => (Offers.remove_length_lt (earliestOffered_mem hold).1).trans_le hl) hn' hb ho hm
    · exact s.setOffers_moves (List.Sublist.refl _)

theorem State.takeOffer_moves (s : State) (o : OfferBody) (cls : MatchClass) :
    s.Moves done (s.takeOffer o cls) := by
  have hpass : s.Moves done s.passOffer := s.setOffers_moves (List.Sublist.refl _)
  unfold State.takeOffer
  split_ifs with _ hn he
  · exact hpass
  · exact .refl s
  · exact hpass
  · exact State.takeEligible_moves (by simpa using he) (by simpa using hn)

theorem Offers.put_numbers (o : Offers) (e : OfferEntry) :
    (o.put e).table.map (fun x => x.number) = o.table.map (fun x => x.number) := by
  simp only [Offers.put, List.map_map]
  refine List.map_congr_left fun x _ => ?_
  simp only [Function.comp]
  split
  · rename_i h
    exact (beq_iff_eq.mp h).symm
  · rfl

theorem State.putOffer_moves (s : State) (e : OfferEntry) : s.Moves done (s.setOffers (s.offers.put e)) :=
  .offers (by rw [Offers.put_numbers])

@[simp] theorem State.draw_emu (s : State) : s.draw.emu = s.emu := by
  rw [s.draw_radioWork]

theorem State.draw_radioStep (s : State) : s.RadioStep s.draw := .of_kinds_eq rfl rfl

/-- A call is overt or covert. -/
theorem Emergency.inCall_of_not {e : Emergency} (ho : e.overtCall = false) (hc : ¬ e.covertCall = true) :
    e.inCall = false := by
  simp only [Emergency.overtCall, Emergency.covertCall] at ho hc
  cases h : e.inCall <;> simp_all

theorem State.acceptOffer_moves {s : State} (h : s.emu.overtCall = false) (e : OfferEntry) :
    s.Moves done (s.acceptOffer e) := by
  refine (s.putOffer_moves { e with state := .accepted }).trans ?_
  unfold State.acceptOffer
  simp only
  split
  · exact .refl _
  · rename_i hc
    refine .radio ((State.draw_radioStep _).trans (State.placeBid_radioStep ?_ _ _))
    rw [State.draw_emu]
    exact Emergency.inCall_of_not h hc

theorem State.overtCall_of_not_refused {s : State} {number : Nat} (h : s.acceptRefusal number = none) :
    s.emu.overtCall = false := by
  refine Bool.eq_false_of_not_eq_true fun ho => ?_
  unfold State.acceptRefusal at h
  rw [if_pos ho] at h
  split at h
  · cases h
  · split at h
    · cases h
    · cases h

theorem State.accept_moves (s : State) (number : Nat) : s.Moves done (s.accept number).state := by
  unfold State.accept
  split
  · exact .refl s
  · rename_i h _
    exact State.acceptOffer_moves (State.overtCall_of_not_refused h) _
  · exact .refl s

theorem State.decline_moves (s : State) (number : Nat) : s.Moves done (s.decline number).state := by
  unfold State.decline
  split_ifs
  · exact .refl s
  · exact (s.removeEntries_moves (Entry.bidFor number)).trans (State.setOffers_moves _ List.filter_sublist)
  · exact .refl s

theorem State.takeWithdraw_moves (s : State) (number : Nat) : s.Moves done (s.takeWithdraw number) := by
  unfold State.takeWithdraw
  split
  · exact (s.removeEntries_moves (Entry.bidFor number)).trans (State.dropOffer_moves _ _ _)
  · exact .refl s

theorem State.decisionDeadline_moves (s : State) (number : Nat) : s.Moves done (s.decisionDeadline number) := by
  unfold State.decisionDeadline
  split
  · split
    · exact s.dropOffer_moves _ _
    · exact .refl s
  · exact .refl s

theorem State.lapseTime_moves (s : State) (number : Nat) : s.Moves done (s.lapseTime number) := by
  unfold State.lapseTime
  split
  · split
    · exact s.dropOffer_moves _ _
    · exact .refl s
  · exact .refl s

/-! ## The Emergency Unit -/

theorem State.emergencyNotice_moves (s : State) (cause : EmergencyCause) (shown : EmergencyState)
    (episode beacons : Nat) : s.Moves done (s.emergencyNotice cause shown episode beacons) :=
  s.raise_moves _ _ _

/-- A call begins: what its entry and the emptying of the queue make of the state is what a choice makes, with the
call set last. -/
theorem State.enter_moves {s q : State} (covert : Bool) (ho : covert = false → s.offers.table = [])
    (hq : ((s.setEmu (s.emu.enter covert s.now)).RadioStep q)) (hb : UplinkKind.bid ∉ kinds q.uls.queue) :
    s.Moves done q := by
  have hquiet : s.RadioStep (q.setEmu s.emu) := by
    refine ⟨?_, hq.room, fun h => (hb h).elim, hq.onAir, hq.access, hq.rx⟩
    rw [State.radioWork, hq.work]
    rfl
  have hlast : (q.setEmu s.emu).setEmu (s.emu.enter covert s.now) = q := by
    rw [hq.work]
    rfl
  have hoffers : (q.setEmu s.emu).offers = s.offers := by
    rw [hq.work]
    rfl
  have hset : (q.setEmu s.emu).Moves done ((q.setEmu s.emu).setEmu (s.emu.enter covert s.now)) := by
    refine .emu (fun _ => .inr hb) (fun h => .inr ?_) fun _ => ?_
    · have hc : covert = false := by simpa [Emergency.enter, Emergency.overtCall, Emergency.inCall] using h
      rw [hoffers]
      exact ho hc
    · simp [State.CallShape, Emergency.enter, Emergency.inCall]
  exact .trans (.radio hquiet) (hlast ▸ hset)

theorem State.enterOvert_moves (s : State) : s.Moves done s.enterOvert := by
  refine .trans (s' := s.setOffers { s.offers with table := [] }) (s.setOffers_moves (List.nil_sublist _)) ?_
  refine .trans (s' := (s.enterActive false).emptyOffers) ?_ (State.emergencyNotice_moves _ _ _ _ _)
  have hstep : ((s.setEmu (s.emu.enter false s.now)).setOffers { s.offers with table := [] }).RadioStep
      ((s.enterActive false).setOffers { s.offers with table := [] }) :=
    (State.choose_radioStep (s.setEmu (s.emu.enter false s.now))).congr rfl rfl rfl rfl (by
      rw [State.radioWork, State.enterActive, State.choose_radioWork (s.setEmu _)]
      rfl) rfl rfl
  have hoffers : (s.enterActive false).offers = s.offers := State.choose_offers _
  have hempty : (s.enterActive false).emptyOffers =
      ((s.enterActive false).setOffers { s.offers with table := [] }).removeBids := by
    rw [State.emptyOffers, hoffers]
  rw [hempty]
  exact State.enter_moves false (fun _ => rfl) (hstep.trans (State.removeEntries_radioStep _ _))
    (State.removeBids_no_bid _)

theorem State.enterCovert_moves (s : State) : s.Moves done s.enterCovert :=
  State.enter_moves true (fun h => nomatch h)
    ((State.choose_radioStep _).trans (State.removeEntries_radioStep _ _)) (State.removeBids_no_bid _)

/-- The unit changes without a call that was not there before. -/
theorem State.setEmu_moves (s : State) {e : Emergency} (hc : e.inCall = s.emu.inCall)
    (hv : e.covert = s.emu.covert) (h : s.CallShape → (s.setEmu e).CallShape) : s.Moves done (s.setEmu e) := by
  refine .emu (fun he => .inl (hc ▸ he)) (fun he => .inl ?_) h
  rw [Emergency.overtCall, hc, hv] at he
  exact he

theorem State.arm_moves {s : State} (h : s.emu.state = .quiet) : s.Moves done s.arm := by
  refine Moves.trans (s' := s.setEmu _) (s.setEmu_moves ?_ ?_ ?_) (State.emergencyNotice_moves _ _ _ _ _)
  · rw [Emergency.inCall, Emergency.inCall, h]
    rfl
  · rfl
  · simp [State.CallShape, Emergency.inCall, h]

theorem State.countPress_moves (s : State) : s.Moves done s.countPress := s.setEmu_moves rfl rfl id

theorem State.press_moves (s : State) : s.Moves done s.press := by
  unfold State.press
  split
  · split
    · exact s.enterOvert_moves
    · exact State.arm_moves (by assumption)
  · exact .refl s
  · exact s.countPress_moves
  · exact s.countPress_moves

theorem State.graceExpiry_moves (s : State) : s.Moves done s.graceExpiry := by
  unfold State.graceExpiry
  split
  · exact s.enterOvert_moves
  · exact .refl s

theorem State.pressCovert_moves (s : State) : s.Moves done s.pressCovert := by
  unfold State.pressCovert
  split
  · exact s.enterCovert_moves
  · split
    · exact s.enterOvert_moves
    · exact s.enterCovert_moves.trans (State.emergencyNotice_moves _ _ _ _ _)
  · exact .refl s
  · exact .refl s

theorem State.cancelInCall_moves (s : State) : s.Moves done s.cancelInCall.state := by
  have hcount : s.Moves done (s.setEmu { s.emu with cancels := countUp s.emu.cancels }) :=
    s.setEmu_moves rfl rfl id
  unfold State.cancelInCall
  simp only
  split
  · exact hcount
  · exact hcount

theorem State.cancel_moves (s : State) : s.Moves done s.cancel.state := by
  unfold State.cancel
  split
  · exact .refl s
  · rename_i h
    split
    · exact s.enterOvert_moves.trans (State.cancelInCall_moves _)
    · refine Moves.trans (s' := s.setEmu _) (s.setEmu_moves ?_ ?_ ?_) (State.emergencyNotice_moves _ _ _ _ _)
      · rw [Emergency.inCall, Emergency.inCall, h]
        rfl
      · rfl
      · simp [State.CallShape, Emergency.inCall, h]
  · exact s.cancelInCall_moves
  · exact s.cancelInCall_moves

theorem State.takeAck_moves (s : State) (episode : Nat) : s.Moves done (s.takeAck episode) := by
  unfold State.takeAck
  split
  · rename_i h
    have hack : s.Moves done (s.setEmu { s.emu with state := .acknowledged }) := by
      refine s.setEmu_moves ?_ rfl ?_
      · simp [Emergency.inCall, h.2]
      · simp [State.CallShape, Emergency.inCall, h.2]
    simp only
    split
    · exact hack
    · exact hack.trans (State.emergencyNotice_moves _ _ _ _ _)
  · exact .refl s

/-- The end of a call: the covert flag is cleared last, and nothing before reads it but for the notice. -/
theorem State.standDown_moves {s : State} (h : s.emu.inCall = true) : s.Moves done s.standDown := by
  let quiet : Emergency := { s.emu with state := .quiet, beacon := none }
  let ended : Emergency := { quiet with covert := false }
  have hended : s.Moves done (s.setEmu ended) := by
    have hstate : s.emu.state ≠ .arming := by
      intro ha
      simp [Emergency.inCall, ha] at h
    refine .emu (fun he => ?_) (fun he => ?_) fun hs => ?_
    · simp [ended, quiet, Emergency.inCall] at he
    · simp [ended, quiet, Emergency.inCall, Emergency.overtCall] at he
    · simpa [State.CallShape, ended, quiet, Emergency.inCall, hstate] using hs.1
  have hdrop : (s.setEmu quiet).RadioStep (s.setEmu quiet).dropBeacon := State.dropBeacon_radioStep _
  have hradio : (s.setEmu ended).RadioStep ((s.setEmu quiet).dropBeacon.setEmu ended) :=
    hdrop.congr rfl rfl rfl rfl (by rw [State.radioWork, hdrop.work]; rfl) rfl rfl
  have hdropEmu : (s.setEmu quiet).dropBeacon.emu = quiet := hdrop.work.emu
  refine hended.trans (.trans (.radio hradio) ?_)
  obtain ⟨c, hc, hraise⟩ := (s.setEmu quiet).dropBeacon.raise_eq .emergency EmergencyCause.stoodDown.code
    (be 1 EmergencyState.quiet.code ++ be 2 s.emu.episode ++ be 2 s.emu.beacons)
  have hnotice : (s.setEmu quiet).dropBeacon.emergencyNotice .stoodDown (s.setEmu quiet).dropBeacon.emu.state
      (s.setEmu quiet).dropBeacon.emu.episode (s.setEmu quiet).dropBeacon.emu.beacons =
        (s.setEmu quiet).dropBeacon.setCab c := by
    rw [hdropEmu]
    exact hraise
  unfold State.standDown
  simp only
  split
  · rw [hdropEmu]
    exact .refl _
  · rw [hnotice, State.setCab_emu, hdropEmu]
    exact .cab (s := (s.setEmu quiet).dropBeacon.setEmu ended) hc

theorem State.takeStandDown_moves (s : State) (episode : Nat) : s.Moves done (s.takeStandDown episode) := by
  unfold State.takeStandDown
  split
  · rename_i h
    exact State.standDown_moves (Bool.and_eq_true_iff.mp h).2
  · exact .refl s

end

end Sys2Proof.Machine
end

section
/-!
PROOFS. The moves of the Link Controller, the Zone Unit, the Message Store and the Job Book.
-/
namespace Sys2Proof.Machine

section

variable {done : Prop}

/-! ## The Link Controller -/

/-- The link hunts on: it may, as long as it does not leave LOCKED with an access in progress. -/
theorem State.enterHunting_moves {s : State} (h : s.link.mode ≠ .locked ∨ s.uls.sched.inAccess = false)
    (entry : Nat) : s.Moves done (s.enterHunting entry) := by
  unfold State.enterHunting
  simp only
  split
  · exact .link (.inr (.inr h))
  · exact .trans (.link (.inr (.inr h))) (.link (.inl rfl))

theorem State.advanceHunt_moves {s : State} (h : s.link.mode ≠ .locked ∨ s.uls.sched.inAccess = false) :
    s.Moves done s.advanceHunt := by
  unfold State.advanceHunt
  split
  · exact State.enterHunting_moves h _
  · have hpass : s.Moves done (s.setLink { s.link with huntPasses := countUp s.link.huntPasses }) :=
      .link (.inl rfl)
    exact hpass.trans
      (State.enterHunting_moves (s := s.setLink { s.link with huntPasses := countUp s.link.huntPasses }) h _)

theorem State.leaveLocked_moves (s : State) : s.Moves done s.leaveLocked :=
  .trans (.radio s.endAccess_radioStep) (.link (.inr (.inr (.inr s.endAccess_inAccess))))

theorem State.linkNoticeOf_moves (s : State) (cause : LinkCause) (c : Option Channel) :
    s.Moves done (s.linkNoticeOf cause c) := s.raise_moves _ _ _

theorem State.linkNoticeOf_uls (s : State) (cause : LinkCause) (c : Option Channel) :
    (s.linkNoticeOf cause c).uls = s.uls := State.raise_uls _ _ _ _

theorem State.leaveLocked_inAccess (s : State) : s.leaveLocked.uls.sched.inAccess = false :=
  s.endAccess_inAccess

theorem State.unlock_moves (s : State) : s.Moves done s.unlock :=
  .trans s.leaveLocked_moves (.trans (State.linkNoticeOf_moves _ _ _) (State.advanceHunt_moves (.inr (by
    rw [State.linkNoticeOf_uls]
    exact s.leaveLocked_inAccess))))

theorem State.lock_moves (s : State) (site : Nat) : s.Moves done (s.lock site) := by
  have hlink : s.Moves done (s.setLink { s.link with
      mode := .locked, lockedSite := some site, dwell := none
      silence := .running (s.now + 1000 * s.op.silence) }) := .link (.inr (.inl rfl))
  exact hlink.trans (State.linkNoticeOf_moves _ _ _)

theorem State.linkReport_moves (s : State) (site : Nat) : s.Moves done (s.linkReport site) := by
  unfold State.linkReport
  split
  · exact .refl s
  · exact .link (.inl rfl)
  · split
    · exact .refl s
    · split
      · exact s.lock_moves site
      · exact .link (.inl rfl)

theorem State.settleExpiry_moves (s : State) : s.Moves done s.settleExpiry := by
  unfold State.settleExpiry
  split
  · exact .link (.inl rfl)
  · exact .refl s

theorem State.dwellExpiry_moves (s : State) : s.Moves done s.dwellExpiry := by
  unfold State.dwellExpiry
  split
  · rename_i h
    exact State.advanceHunt_moves (.inl (by simp [h.1]))
  · exact .refl s

theorem State.silenceExpiry_moves (s : State) : s.Moves done s.silenceExpiry := by
  unfold State.silenceExpiry
  split
  · exact s.unlock_moves
  · exact .refl s

theorem State.channelsCommitted_moves (s : State) (old : List Channel) :
    s.Moves done (s.channelsCommitted old) := by
  unfold State.channelsCommitted
  split
  · exact State.enterHunting_moves (.inl (by simp [*])) _
  · exact State.enterHunting_moves (.inl (by simp [*])) _
  · split
    · exact .link (.inl rfl)
    · exact .trans s.leaveLocked_moves (.trans (State.linkNoticeOf_moves _ _ _)
        (State.enterHunting_moves (.inr (by
          rw [State.linkNoticeOf_uls]
          exact s.leaveLocked_inAccess)) _))

theorem State.takeSiteBeacon_moves (s : State) (site status : Nat) :
    s.Moves done (s.takeSiteBeacon site status) := by
  unfold State.takeSiteBeacon
  split
  · exact s.unlock_moves
  · exact .refl s

/-! ## The Zone Unit and the Message Store -/

theorem State.join_moves (s : State) {kind : UplinkKind} (hk : kind ≠ .bid) (body : List Byte)
    (bid : Option BidTimes) : s.Moves done (s.join kind body bid).state :=
  .radio (State.join_radioStep (fun h => (hk h).elim) body bid)

theorem State.zoneRule_moves (s : State) (old : Nat) : s.Moves done (s.zoneRule old).state := by
  unfold State.zoneRule
  split
  · exact s.join_moves (by decide) _ _
  · exact .refl s

theorem State.zoneMapCommitted_moves (s : State) : s.Moves done s.zoneMapCommitted := by
  unfold State.zoneMapCommitted
  split
  · exact .trans (.zone s _) (State.zoneRule_moves _ _)
  · exact .refl s

theorem State.position_moves (s : State) (row col noFix : Byte) :
    s.Moves done (s.position row col noFix).state := by
  unfold State.position
  split_ifs
  · exact .zone s _
  · exact .refl s
  · exact .trans (.zone s _) (State.zoneRule_moves _ _)

/-- Messages leave the store. -/
theorem State.setMsgs_moves (s : State) {m : Messages} (h : m.store.Sublist s.msgs.store) :
    s.Moves done (s.setMsgs m) :=
  .msgs (h.map _) fun x hx => ⟨x, h.subset hx, rfl, rfl, rfl⟩

theorem State.dropMessage_moves (s : State) (cause : MsgCause) (x : Message) :
    s.Moves done (s.dropMessage cause x) :=
  (s.setMsgs_moves List.filter_sublist).trans (State.raise_moves _ _ _ _)

theorem State.putMessage_moves {s : State} {x y : Message} (h : s.msgs.find x.number = some y)
    (ht : x.text = y.text) (hc : x.cls = y.cls) (hj : x.job = y.job) :
    s.Moves done (s.setMsgs (s.msgs.put x)) := by
  refine .msgs ?_ fun z hz => ?_
  · have : (s.msgs.put x).store.map (fun z => z.number) = s.msgs.store.map (fun z => z.number) := by
      simp only [Messages.put, List.map_map]
      refine List.map_congr_left fun z _ => ?_
      simp only [Function.comp]
      split
      · rename_i h
        exact (beq_iff_eq.mp h).symm
      · rfl
    rw [this]
  · simp only [Messages.put, List.mem_map] at hz
    obtain ⟨w, hw, rfl⟩ := hz
    split
    · exact ⟨y, List.mem_of_find?_eq_some h, ht, hc, hj⟩
    · exact ⟨w, hw, rfl, rfl, rfl⟩

theorem Messages.number_of_find {m : Messages} {number : Nat} {x : Message} (h : m.find number = some x) :
    x.number = number := by
  simpa using List.find?_some h

theorem State.markRead_moves (s : State) (number : Nat) : s.Moves done (s.markRead number).state := by
  unfold State.markRead
  split
  · exact .refl s
  · split
    · exact .refl s
    · rename_i x hx
      split
      · refine State.putMessage_moves (y := x) ?_ rfl rfl rfl
        rw [← Messages.number_of_find hx] at hx
        exact hx
      · exact .refl s

theorem State.driverMessage_moves (s : State) (number phrase : Nat) :
    s.Moves done (s.driverMessage number phrase).state :=
  s.join_moves (by decide) _ _

theorem State.reply_moves (s : State) (number phrase : Nat) : s.Moves done (s.reply number phrase).state := by
  unfold State.reply
  split
  · exact .refl s
  · split
    · exact .refl s
    · rename_i x hx
      split
      · exact .refl s
      · have hj : s.Moves done (s.driverMessage number phrase).state := s.driverMessage_moves number phrase
        simp only
        split
        · refine hj.trans (State.putMessage_moves (y := x) ?_ rfl rfl rfl)
          rw [← Messages.number_of_find hx] at hx
          rw [State.driverMessage, State.join_msgs]
          exact hx
        · exact hj

theorem State.send_moves (s : State) (phrase : Nat) : s.Moves done (s.send phrase).state := by
  have hj : s.Moves done (s.driverMessage 0 phrase).state := s.driverMessage_moves 0 phrase
  unfold State.send
  simp only
  split
  · exact .refl s
  · split
    · exact hj
    · exact hj

theorem State.tickMessages_moves (s : State) : s.Moves done s.tickMessages := by
  unfold State.tickMessages
  simp only
  refine .trans (s' := s.setMsgs { s.msgs with store := s.msgs.store.map Message.count }) (.msgs ?_ ?_)
    (State.foldl_moves (fun s x => s.dropMessage_moves .expired x) _ _)
  · simp only [List.map_map]
    exact List.Sublist.refl _
  · intro x hx
    obtain ⟨y, hy, rfl⟩ := List.mem_map.mp hx
    exact ⟨y, hy, rfl, rfl, rfl⟩

theorem State.expireMessage_moves (s : State) (number : Nat) : s.Moves done (s.expireMessage number) := by
  unfold State.expireMessage
  split
  · split
    · exact s.dropMessage_moves _ _
    · exact .refl s
  · exact .refl s

/-! ## The expander keeps its limit (R157) -/

theorem addPositions_length_le {limit : Nat} {emphasis flag : Bool} {chars : List (BitVec 7)}
    {made made' : List DisplayPos} (h : made.length ≤ limit)
    (ha : addPositions limit emphasis chars made = (made', flag)) : made'.length ≤ limit := by
  induction chars generalizing made with
  | nil =>
    cases ha
    exact h
  | cons c rest ih =>
    unfold addPositions at ha
    split at ha
    · cases ha
      exact h
    · refine ih ?_ ha
      simp only [List.length_append, List.length_singleton]
      omega

theorem expandFrom_length_le {book : Option Memory} {limit : Nat} {codes : List Nat} {setB emphasis : Bool}
    {made : List DisplayPos} (h : made.length ≤ limit) :
    (expandFrom book limit codes setB emphasis made).positions.length ≤ limit := by
  fun_induction expandFrom book limit codes setB emphasis made with
  | case1 => exact h
  | case2 => exact h
  | case3 => exact addPositions_length_le h (by assumption)
  | case4 _ _ _ _ _ hadd ih => exact ih (addPositions_length_le h hadd)
  | case5 _ _ _ _ _ ih => exact ih h
  | case6 _ _ _ _ _ _ ih => exact ih h
  | case7 _ _ _ _ _ _ _ ih => exact ih h
  | case8 _ _ _ _ _ _ _ _ ih => exact ih h
  | case9 _ _ _ _ _ _ _ _ _ _ ih => exact ih h
  | case10 => exact addPositions_length_le h (by assumption)
  | case11 _ _ _ _ _ _ _ hadd _ ih => exact ih (addPositions_length_le h hadd)
  | case12 => exact h
  | case13 => exact h
  | case14 => exact addPositions_length_le h (by assumption)
  | case15 _ _ _ _ _ _ _ _ _ hadd ih => exact ih (addPositions_length_le h hadd)

/-! ## A MESSAGE is taken (R159, R161) -/

theorem Messages.victim_mem {m : Messages} {x : Message} (h : m.victim = some x) : x ∈ m.store := by
  unfold Messages.victim at h
  split at h
  · rename_i y hy
    cases h
    exact List.mem_of_find?_eq_some hy
  · split at h
    · rename_i y hy
      cases h
      exact List.mem_of_find?_eq_some hy
    · exact List.mem_of_mem_head? h

theorem Messages.victim_isSome {m : Messages} (h : m.store ≠ []) : m.victim.isSome = true := by
  unfold Messages.victim
  split
  · rfl
  · split
    · rfl
    · simpa [List.isSome_head?] using h

theorem Messages.remove_length_lt {m : Messages} {x : Message} (h : x ∈ m.store) :
    (m.remove x.number).store.length < m.store.length :=
  List.length_filter_lt_length_iff_exists.mpr ⟨x, h, by simp⟩

@[simp] theorem Messages.countLost_store (m : Messages) (x : Message) : (m.countLost x).store = m.store := by
  unfold Messages.countLost
  split <;> rfl

/-- The room a message finds: what is left of the store has room for it, and the notice of an eviction has been
raised. -/
theorem State.makeRoom_eq (s : State) :
    ∃ m c, m.store.Sublist s.msgs.store
      ∧ (s.msgs.store.length ≤ Config.storeMax → m.store.length < Config.storeMax)
      ∧ s.cab.Noticed c ∧ s.makeRoom = (s.setMsgs m).setCab c := by
  unfold State.makeRoom
  split
  · rename_i hl
    exact ⟨s.msgs, s.cab, List.Sublist.refl _, fun _ => hl, .of_eq rfl rfl fun _ => rfl, rfl⟩
  · rename_i hl
    have hne : s.msgs.store ≠ [] := by
      intro h
      simp [h, Config.storeMax] at hl
    obtain ⟨x, hx⟩ := Option.isSome_iff_exists.mp (Messages.victim_isSome hne)
    let m := (s.msgs.countLost x).remove x.number
    obtain ⟨c, hc, hraise⟩ := (s.setMsgs m).raise_eq .message MsgCause.evicted.code
      (be 2 x.number ++ be 1 x.cls.code ++ be 1 MsgCause.evicted.code ++ be 1 m.unread)
    have hmem : x ∈ (s.msgs.countLost x).store := (Messages.countLost_store ..).symm ▸ Messages.victim_mem hx
    refine ⟨m, c, ?_, fun hs => ?_, hc, ?_⟩
    · have : m.store.Sublist (s.msgs.countLost x).store := List.filter_sublist
      rwa [Messages.countLost_store] at this
    · have hlt : m.store.length < s.msgs.store.length := by
        simpa using Messages.remove_length_lt hmem
      exact hlt.trans_le hs
    · rw [State.evict, hx]
      exact hraise

theorem State.classAndLink_spec (s : State) (cls : MsgClass) (job : Option Nat) :
    ((s.classAndLink cls job).1 = .jobnote →
        ∃ n, (s.classAndLink cls job).2 = some n ∧ s.jobs.holds n = true)
      ∧ ((s.classAndLink cls job).1 ≠ .jobnote → (s.classAndLink cls job).2 = none) := by
  unfold State.classAndLink
  split
  · simp
  · simp
  · split
    · split
      · simpa using ‹_›
      · simp
    · simp

theorem State.takeMessage_moves (s : State) (b : MessageBody) : s.Moves done (s.takeMessage b) := by
  unfold State.takeMessage
  split
  · exact .refl s
  · rename_i cls _
    split_ifs with _ hn
    · exact .refl s
    · exact .refl s
    · obtain ⟨m, c, hsub, hlen, hc, hroom⟩ := s.makeRoom_eq
      obtain ⟨hnote, hplain⟩ := s.classAndLink_spec cls b.job
      have hfresh : b.number ∉ s.msgs.store.map (fun y => y.number) := by
        simpa [Messages.find] using hn
      have htext : (s.messageRecord b cls).text.positions.length ≤ 240 :=
        expandFrom_length_le (Nat.zero_le _)
      rw [hroom]
      refine .trans (.cab (c := c) hc) (.trans ?_ (State.raise_moves _ _ _ _))
      exact Moves.addMessage (s := s.setCab c) (l := m.store) (x := s.messageRecord b cls) rfl hsub hlen hfresh
        htext hnote hplain

/-! ## The Job Book -/

/-- The messages of a job that leaves: those linked to it are gone, and the notices of their going raised. -/
theorem State.jobGone_eq (s : State) (n : Nat) :
    ∃ m c, m.store.Sublist s.msgs.store ∧ (∀ x ∈ m.store, x.linkedTo n = false) ∧ s.cab.Noticed c
      ∧ s.jobGone n = (s.setMsgs m).setCab c := by
  have hfold : ∀ (l : List Message) (q : State), ∃ m c, m.store.Sublist q.msgs.store
      ∧ (∀ x ∈ m.store, ∀ y ∈ l, x.number ≠ y.number) ∧ q.cab.Noticed c
      ∧ l.foldl (State.dropMessage · .jobGone ·) q = (q.setMsgs m).setCab c := by
    intro l
    induction l with
    | nil => exact fun q => ⟨q.msgs, q.cab, List.Sublist.refl _, by simp, .of_eq rfl rfl fun _ => rfl, rfl⟩
    | cons y rest ih =>
      intro q
      obtain ⟨c, hc, hraise⟩ := (q.setMsgs (q.msgs.remove y.number)).raise_eq .message MsgCause.jobGone.code
        (be 2 y.number ++ be 1 y.cls.code ++ be 1 MsgCause.jobGone.code
          ++ be 1 (q.msgs.remove y.number).unread)
      have hdrop : q.dropMessage .jobGone y = (q.setMsgs (q.msgs.remove y.number)).setCab c := hraise
      obtain ⟨m, c', hsub, hne, hc', hrest⟩ := ih (q.dropMessage .jobGone y)
      have hleft : (q.dropMessage .jobGone y).msgs = q.msgs.remove y.number := by
        rw [hdrop]
        rfl
      rw [hleft] at hsub
      refine ⟨m, c', hsub.trans List.filter_sublist, fun x hx z hz => ?_, ?_, ?_⟩
      · rcases List.mem_cons.mp hz with rfl | hz
        · have := (List.mem_filter.mp (hsub.subset hx)).2
          simpa using this
        · exact hne x hx z hz
      · rw [hdrop] at hc'
        exact hc.trans hc'
      · rw [List.foldl_cons, hrest, hdrop]
        rfl
  obtain ⟨m, c, hsub, hne, hc, h⟩ := hfold (s.msgs.store.filter (Message.linkedTo n)) s
  refine ⟨m, c, hsub, fun x hx => Bool.eq_false_of_not_eq_true fun hl => ?_, hc, h⟩
  exact hne x hx x (List.mem_filter.mpr ⟨hsub.subset hx, hl⟩) rfl

theorem State.promote_moves (s : State) : s.Moves done s.promote := by
  unfold State.promote
  split
  · rename_i h1 h2
    exact .trans (.promote h1 h2) (State.raise_moves _ _ _ _)
  · exact .refl s

/-- A job that is not ON-BOARD leaves the ACTIVE place. -/
theorem State.leaveActive_moves {s : State} {j : Job} (h : s.jobs.active = some j) (hj : j.state ≠ .onBoard) :
    s.Moves done (s.leaveActive j) := by
  obtain ⟨m, c, hsub, hl, hc, hgone⟩ := (s.setJobs { s.jobs with active := none }).jobGone_eq j.number
  refine .trans ?_ (State.promote_moves _)
  rw [hgone]
  refine .trans (.leave (b := { s.jobs with active := none }) ?_ ?_ hsub hl) (.cab hc)
  · exact .inr ⟨rfl, j, h, rfl, hj⟩
  · exact .inl rfl

theorem State.leaveQueued_moves (s : State) (j : Job) : s.Moves done (s.leaveQueued j) := by
  obtain ⟨m, c, hsub, hl, hc, hgone⟩ := (s.setJobs
    { s.jobs with queued := s.jobs.queued.filter (fun k => k.number != j.number) }).jobGone_eq j.number
  unfold State.leaveQueued
  rw [hgone]
  exact .trans (.leave (b := { s.jobs with queued := s.jobs.queued.filter (fun k => k.number != j.number) })
    (.inl rfl) (.inr rfl) hsub hl) (.cab hc)

theorem State.jobStatus_moves (s : State) (j : Job) (status : JobReport) : s.Moves done (s.jobStatus j status) :=
  s.queue_moves (by decide) _

theorem State.refuseAward_moves (s : State) (offer job : Nat) (reason : Reason) :
    s.Moves done (s.refuseAward offer job reason) := s.queue_moves (by decide) _

theorem State.placeJob_moves (s : State) (r : JobRequest) : s.Moves done (s.placeJob r).state := by
  unfold State.placeJob
  split_ifs with hh hs hq
  · exact .refl s
  · exact .trans (.joinActive (j := s.jobRecord r) hs.2.1 (Bool.eq_false_of_not_eq_true hh) rfl)
      (State.raise_moves _ _ _ _)
  · have hjoin : s.Moves done (((s.setJobs { s.jobs with queued := s.jobs.queued ++ [s.jobRecord r] })).jobNotice
        .placed (s.jobRecord r) (some false)) :=
      .trans (.joinQueued (j := s.jobRecord r) hq (Bool.eq_false_of_not_eq_true hh) rfl rfl)
        (State.raise_moves _ _ _ _)
    unfold State.joinQueued
    simp only
    split
    · exact hjoin.trans (State.promote_moves _)
    · exact hjoin
  · exact .refl s

theorem State.takeAssign_moves (s : State) (a : AssignBody) : s.Moves done (s.takeAssign a) := by
  unfold State.takeAssign
  simp only
  split_ifs
  · exact .refl s
  · exact .refl s
  · exact s.refuseAward_moves _ _ _
  · exact s.refuseAward_moves _ _ _
  · exact s.refuseAward_moves _ _ _
  · exact s.placeJob_moves _
  · exact (s.placeJob_moves _).trans (State.refuseAward_moves _ _ _ _)

theorem State.takeAwardFor_moves (s : State) (a : AwardBody) (e : OfferEntry) :
    s.Moves done (s.takeAwardFor a e) := by
  have hplace : s.Moves done (((s.removeBid a.offer).dropOffer e .awarded).placeJob (a.request e.zone)).state :=
    (s.removeEntries_moves (Entry.bidFor a.offer)).trans
      ((State.dropOffer_moves _ e .awarded).trans (State.placeJob_moves _ _))
  unfold State.takeAwardFor
  simp only
  split_ifs
  · exact hplace
  · exact hplace.trans (State.refuseAward_moves _ _ _ _)

theorem State.takeAward_moves (s : State) (a : AwardBody) : s.Moves done (s.takeAward a) := by
  unfold State.takeAward
  split
  · exact .refl s
  · split
    · exact s.refuseAward_moves _ _ _
    · split
      · exact s.refuseAward_moves _ _ _
      · split
        · exact s.refuseAward_moves _ _ _
        · split
          · exact (s.refuseAward_moves _ _ _).trans (State.dropOffer_moves _ _ _)
          · exact s.takeAwardFor_moves _ _

theorem JobBook.activeIn_spec {b : JobBook} {number : Nat} {state : JobState} {j : Job}
    (h : b.activeIn number state = some j) : b.active = some j ∧ j.number = number ∧ j.state = state := by
  unfold JobBook.activeIn at h
  obtain ⟨ha, hj⟩ := Option.filter_eq_some_iff.mp h
  simpa [ha] using hj

theorem State.arrived_moves (s : State) (number : Nat) : s.Moves done (s.arrived number).state := by
  unfold State.arrived
  split
  · exact .refl s
  · split
    · exact .refl s
    · rename_i j hj
      obtain ⟨ha, -, hs⟩ := JobBook.activeIn_spec hj
      exact .trans (.arrive (some s.now) ha hs) (State.jobStatus_moves _ _ _)

theorem State.noShow_moves (s : State) (number : Nat) : s.Moves done (s.noShow number).state := by
  unfold State.noShow
  split
  · exact .refl s
  · split
    · exact .refl s
    · rename_i j hj
      obtain ⟨ha, -, hs⟩ := JobBook.activeIn_spec hj
      split
      · exact (State.leaveActive_moves ha (by simp [hs])).trans (State.jobStatus_moves _ _ _)
      · exact .refl s

theorem State.takeJobCancel_moves (s : State) (number : Nat) : s.Moves done (s.takeJobCancel number) := by
  unfold State.takeJobCancel
  split
  · rename_i j hj
    split
    · exact s.jobStatus_moves _ _
    · rename_i hs
      exact (State.leaveActive_moves (Option.filter_eq_some_iff.mp hj).1 hs).trans (State.raise_moves _ _ _ _)
  · split
    · exact (s.leaveQueued_moves _).trans (State.raise_moves _ _ _ _)
    · exact .refl s

end

end Sys2Proof.Machine
end

section
/-!
PROOFS. The moves of the Dispatch Control Unit, with what its tests establish about an image that commits.
-/

namespace Sys2Proof.Machine

/-! ## Validated images (R187) -/

theorem badField_eq_none_iff {l : List Field} : badField l = none ↔ ∀ f ∈ l, f.2 = true := by
  induction l with
  | nil => simp [badField]
  | cons f rest ih =>
    obtain ⟨offset, ok⟩ := f
    cases ok
    · simp [badField]
    · simpa [badField] using ih

theorem field_ok_iff {m : Memory} {offset width low high : Nat} :
    (field m offset width low high).2 = true ↔ low ≤ m.natAt offset width ∧ m.natAt offset width ≤ high := by
  simp [field]

theorem mem_entryFields {offset size count : Nat} {fields : Nat → List Field} {f : Field} :
    f ∈ entryFields offset size count fields ↔ ∃ i < count, f ∈ fields (offset + size * i) := by
  simp [entryFields]

/-- A TARIFF SET image with every field in range holds a sound set (R187). -/
theorem TariffSet.ofImage_sound {m : Memory} (h : ∀ f ∈ tariffSetFields m, f.2 = true) :
    (TariffSet.ofImage m).sound := by
  simp only [tariffSetFields, List.mem_append, List.mem_cons, mem_entryFields] at h
  have hcount : 1 ≤ m.natAt 0 1 := (field_ok_iff.mp (h (field m 0 1 1 4) (by simp))).1
  refine ⟨?_, fun t ht => ?_, fun b hb => ?_⟩
  · simp only [TariffSet.ofImage, ne_eq, List.map_eq_nil_iff, List.range_eq_nil]
    omega
  · simp only [TariffSet.ofImage, List.mem_map, List.mem_range] at ht
    obtain ⟨i, hi, rfl⟩ := ht
    have hd := field_ok_iff.mp (h (field m (1 + 11 * i + 5) 2 10 2000)
      (by simp; exact .inl (.inl (.inl (.inl (.inl (.inl (.inr ⟨i, hi, by simp⟩))))))))
    have ht := field_ok_iff.mp (h (field m (1 + 11 * i + 7) 2 1 600)
      (by simp; exact .inl (.inl (.inl (.inl (.inl (.inl (.inr ⟨i, hi, by simp⟩))))))))
    have hs := field_ok_iff.mp (h (field m (1 + 11 * i + 9) 1 1 20)
      (by simp; exact .inl (.inl (.inl (.inl (.inl (.inl (.inr ⟨i, hi, by simp⟩))))))))
    exact ⟨hd.1, ht.1, hs.1⟩
  · simp only [TariffSet.ofImage, List.mem_map, List.mem_range] at hb
    obtain ⟨i, hi, rfl⟩ := hb
    have hb := field_ok_iff.mp (h (field m (46 + 4 * i + 3) 1 1 (m.natAt 0 1))
      (by simp; exact .inl (.inl (.inl (.inl (.inr ⟨i, hi, by simp⟩))))))
    simpa [TariffSet.ofImage, Band.ofImage] using hb

theorem Staged.fields_ok {g : Staged} (h : g.badField = none) : ∀ f ∈ g.kind.fields g.image, f.2 = true :=
  badField_eq_none_iff.mp h

/-- The ranges of a CALIBRATION that commits (R187). -/
theorem Calibration.ofImage_inRange {m : Memory} (h : ∀ f ∈ calibrationFields m, f.2 = true) (version : Nat) :
    500 ≤ (Calibration.ofImage m version).k ∧ (Calibration.ofImage m version).k ≤ 20000
      ∧ 20 ≤ (Calibration.ofImage m version).vmax ∧ (Calibration.ofImage m version).vmax ≤ 100 := by
  have hk := field_ok_iff.mp (h (field m 0 2 500 20000) (by simp [calibrationFields]))
  have hv := field_ok_iff.mp (h (field m 2 1 20 100) (by simp [calibrationFields]))
  exact ⟨hk.1, hk.2, hv.1, hv.2⟩

/-! ## The staged image (R189) -/

theorem Memory.mem_entry {offset : Nat} {byte : Byte} {c : Nat × Byte} (h : c ∈ Memory.entry offset byte) :
    c.1 = offset := by
  unfold Memory.entry at h
  split at h
  · cases h
  · rw [List.mem_singleton.mp h]

theorem Memory.mem_write {m : Memory} {offset : Nat} {byte : Byte} {c : Nat × Byte}
    (h : c ∈ m.write offset byte) : c.1 = offset ∨ c ∈ m := by
  induction m with
  | nil => exact .inl (Memory.mem_entry h)
  | cons x rest ih =>
    obtain ⟨a, b⟩ := x
    unfold Memory.write at h
    split at h
    · exact (List.mem_append.mp h).imp Memory.mem_entry id
    · split at h
      · exact (List.mem_append.mp h).imp Memory.mem_entry (List.mem_cons_of_mem _)
      · rcases List.mem_cons.mp h with rfl | h
        · exact .inr List.mem_cons_self
        · exact (ih h).imp id (List.mem_cons_of_mem _)

/-- Bytes written from an offset lie in the run that starts there. -/
theorem Memory.mem_writeAll {bytes : List Byte} {m : Memory} {offset : Nat} {c : Nat × Byte}
    (h : c ∈ m.writeAll offset bytes) : (offset ≤ c.1 ∧ c.1 < offset + bytes.length) ∨ c ∈ m := by
  induction bytes generalizing m offset with
  | nil => exact .inr h
  | cons b rest ih =>
    rcases ih (show c ∈ (m.write offset b).writeAll (offset + 1) rest from h) with hr | hm
    · refine .inl ⟨by omega, ?_⟩
      simp only [List.length_cons]
      omega
    · refine (Memory.mem_write hm).imp (fun hc => ?_) id
      simp only [List.length_cons]
      omega

/-- A LOAD DATA keeps the staged image canonical and inside its length (R189). -/
theorem Staged.write_inside {g : Staged} (h : g.image.wf = true ∧ ∀ c ∈ g.image, c.1 < g.kind.length)
    (arg : LoadDataArg) :
    (g.write arg).image.wf = true ∧ ∀ c ∈ (g.write arg).image, c.1 < (g.write arg).kind.length := by
  refine ⟨Staged.write_wf h.1 arg, fun c hc => ?_⟩
  rcases Memory.mem_writeAll hc with hr | hm
  · have hl : (g.inside arg).length ≤ g.kind.length - arg.offset.toNat := List.length_take_le _ _
    have hk : (g.write arg).kind = g.kind := rfl
    rw [hk]
    omega
  · exact h.2 c hm

/-! ## The moves -/

section

variable {done : Prop}

/-- The unit changes with the bar and the clock as they were. -/
theorem State.setDcu_moves (s : State) {d : Dcu} (hb : d.barred = s.dcu.barred) (hc : d.clock = s.dcu.clock)
    (hg : s.StagedInside → (s.setDcu d).StagedInside) : s.Moves done (s.setDcu d) :=
  .dcu (fun h => .inl (hb ▸ h)) (fun h c hclock => h c (hc ▸ hclock)) hg

theorem State.unstage_moves (s : State) {d : Dcu} (hb : d.barred = s.dcu.barred) (hc : d.clock = s.dcu.clock)
    (hg : d.staging = none) : s.Moves done (s.setDcu d) :=
  s.setDcu_moves hb hc fun _ g h => by
    rw [State.setDcu_dcu, hg] at h
    cases h

theorem State.loadResult_moves (s : State) (kind version : Nat) (outcome : LoadOutcome) :
    s.Moves done (s.loadResult kind version outcome) := s.queue_moves (by decide) _

theorem State.openLoad_moves (s : State) (kind : TableKind) (version : Nat) :
    s.Moves done (s.openLoad kind version) :=
  s.setDcu_moves (d := { s.dcu with staging := some { kind := kind, version := version, image := [] } }) rfl rfl
    fun _ g h => by
      cases h
      exact ⟨rfl, fun c hc => nomatch hc⟩

theorem State.airLoadOpen_moves (s : State) (arg : LoadOpenArg) : s.Moves done (s.airLoadOpen arg) := by
  unfold State.airLoadOpen
  split
  · exact .refl s
  · split
    · exact s.loadResult_moves _ _ _
    · exact s.openLoad_moves _ _

theorem State.cabLoadOpen_moves (s : State) (arg : LoadOpenArg) : s.Moves done (s.cabLoadOpen arg).state := by
  unfold State.cabLoadOpen
  split
  · exact .refl s
  · split
    · exact .refl s
    · exact s.openLoad_moves _ _

theorem State.countDiscarded_moves (s : State) : s.Moves done s.countDiscarded := s.setDcu_moves rfl rfl id

theorem State.writeLoad_moves (s : State) (arg : LoadDataArg) : s.Moves done (s.writeLoad arg) := by
  unfold State.writeLoad
  split
  · split
    · exact .refl s
    · exact s.countDiscarded_moves
  · rename_i g hg
    have hwrite : s.Moves done (s.setStaging (some (g.write arg))) :=
      s.setDcu_moves (d := { s.dcu with staging := some (g.write arg) }) rfl rfl fun h g' hg' => by
        cases hg'
        exact Staged.write_inside (h g hg) arg
    simp only
    split
    · exact hwrite.trans (State.countDiscarded_moves _)
    · exact hwrite

theorem State.cabLoadData_moves (s : State) (arg : LoadDataArg) : s.Moves done (s.cabLoadData arg).state := by
  unfold State.cabLoadData
  split
  · exact .refl s
  · split
    · exact s.writeLoad_moves arg
    · exact s.writeLoad_moves arg
    · exact s.writeLoad_moves arg

theorem State.commitAddress_moves (s : State) (v : Versioned AddressRecord) : s.Moves done (s.commitAddress v) :=
  (s.unstage_moves (d := { s.dcu with address := some v, staging := none }) rfl rfl rfl).trans
    ((State.emptyOffers_moves _).trans (.radio (.of_kinds_eq rfl rfl)))

theorem State.commitTariffSet_moves (s : State) {b : Bank} (h : b.set.sound) :
    s.Moves done (s.commitTariffSet b) :=
  (s.unstage_moves (d := { s.dcu with staging := none }) rfl rfl rfl).trans (.pend h)

theorem State.commitCalibration_moves (s : State) {c : Calibration}
    (h : 500 ≤ c.k ∧ c.k ≤ 20000 ∧ 20 ≤ c.vmax ∧ c.vmax ≤ 100) : s.Moves done (s.commitCalibration c) :=
  (s.unstage_moves (d := { s.dcu with staging := none }) rfl rfl rfl).trans (.calibrate h)

/-- An image with every field in range commits at the table of its kind. -/
theorem State.commitTable_moves (s : State) {g : Staged} (h : g.badField = none) :
    s.Moves done (s.commitTable g) := by
  have hok := Staged.fields_ok h
  unfold State.commitTable
  split
  · exact s.commitAddress_moves _
  · exact (s.unstage_moves (d := { s.dcu with zoneMap := _, staging := none }) rfl rfl rfl).trans
      (State.zoneMapCommitted_moves _)
  · exact (s.unstage_moves (d := { s.dcu with channels := _, staging := none }) rfl rfl rfl).trans
      (State.channelsCommitted_moves _ _)
  · rename_i hk
    rw [hk] at hok
    exact s.commitTariffSet_moves (TariffSet.ofImage_sound hok)
  · exact s.unstage_moves rfl rfl rfl
  · exact (s.unstage_moves (d := { s.dcu with operating := _, staging := none }) rfl rfl rfl).trans
      (State.choose_moves _)
  · rename_i hk
    rw [hk] at hok
    exact s.commitCalibration_moves (Calibration.ofImage_inRange hok _)

theorem State.badField_of_done {s : State} {g : Staged} {check : BitVec 16}
    (h : s.commitTests g check = .done) : g.badField = none := by
  unfold State.commitTests at h
  split at h
  · cases h
  · split at h
    · cases h
    · assumption

theorem State.afterCommit_moves (s : State) (check : BitVec 16) : s.Moves done (s.afterCommit check) := by
  have hdrop : s.Moves done (s.setStaging none) :=
    s.unstage_moves (d := { s.dcu with staging := none }) rfl rfl rfl
  unfold State.afterCommit
  split
  · exact .refl s
  · split
    · rename_i h
      exact (s.commitTable_moves (State.badField_of_done h)).trans (State.raise_moves _ _ _ _)
    · exact .refl s
    · exact .refl s
    · exact hdrop
    · exact hdrop
    · exact hdrop

theorem State.airLoadCommit_moves (s : State) (check : BitVec 16) : s.Moves done (s.airLoadCommit check) :=
  (s.afterCommit_moves check).trans (State.loadResult_moves _ _ _ _)

theorem State.cabLoadCommit_moves (s : State) (check : BitVec 16) :
    s.Moves done (s.cabLoadCommit check).state := by
  unfold State.cabLoadCommit
  split
  · exact .refl s
  · exact s.afterCommit_moves check

/-- The offers leave before the bar falls: the order in which the state is written is free. -/
theorem State.takeBar_moves (s : State) : s.Moves done s.takeBar := by
  unfold State.takeBar
  split
  · exact .refl s
  · have hbar : (s.setOffers { s.offers with table := [] }).Moves done
        ((s.setOffers { s.offers with table := [] }).setDcu { s.dcu with barred := true }) :=
      .dcu (fun _ => .inr rfl) id id
    exact (s.setOffers_moves (List.nil_sublist _)).trans (hbar.trans
      ((State.removeEntries_moves _ _).trans (State.raise_moves _ _ _ _)))

theorem State.takeReinstate_moves (s : State) : s.Moves done s.takeReinstate := by
  unfold State.takeReinstate
  split
  · have hfree : s.Moves done (s.setDcu { s.dcu with barred := false }) := .dcu (fun h => nomatch h) id id
    exact hfree.trans (State.raise_moves _ _ _ _)
  · exact .refl s

theorem State.takeRestart_moves (s : State) : s.Moves done s.takeRestart :=
  (s.unstage_moves (d := { s.dcu with staging := none }) rfl rfl rfl).trans
    ((State.setOffers_moves _ (List.nil_sublist _)).trans
      ((State.removeEntries_moves _ _).trans
        ((State.setMsgs_moves _ (List.nil_sublist _)).trans (State.raise_moves _ _ _ _))))

theorem State.clearCounters_moves (s : State) : s.Moves done s.clearCounters := by
  have hair : s.Moves done (s.setAir { s.air with counters := RxCounters.zero }) := .air (.inl rfl)
  have hlink : ∀ q : State, q.Moves done (q.setLink { q.link with siteMismatches := 0, huntPasses := 0 }) :=
    fun q => .link (.inl rfl)
  have huls : ∀ q : State, q.Moves done (q.setUls { q.uls with drops := 0, displaced := 0, bidsLost := 0 }) :=
    fun q => .radio (.of_kinds_eq rfl rfl)
  have hdcu : ∀ q : State, q.Moves done (q.setDcu { q.dcu with loadDiscarded := 0 }) :=
    fun q => q.setDcu_moves rfl rfl id
  have hoffers : ∀ q : State, q.Moves done (q.setOffers { q.offers with passed := 0, displaced := 0 }) :=
    fun q => q.setOffers_moves (List.Sublist.refl _)
  have hmsgs : ∀ q : State, q.Moves done (q.setMsgs { q.msgs with lost := 0 }) :=
    fun q => q.setMsgs_moves (List.Sublist.refl _)
  exact hair.trans ((hlink _).trans ((huls _).trans ((hoffers _).trans ((hmsgs _).trans (hdcu _)))))

theorem State.statusReply_moves (s : State) (body : List Byte) : s.Moves done (s.statusReply body) :=
  s.queue_moves (by decide) _

theorem State.takeStatusQuery_moves (s : State) (code : Nat) (clear : Bool) :
    s.Moves done (s.takeStatusQuery code clear) := by
  unfold State.takeStatusQuery
  split
  · exact s.statusReply_moves _
  · exact s.statusReply_moves _
  · unfold State.queryCounters
    split
    · exact s.clearCounters_moves.trans (State.statusReply_moves _ _)
    · exact s.statusReply_moves _
  · exact s.statusReply_moves _
  · exact .refl s

end

end Sys2Proof.Machine
end

section
/-!
PROOFS. The moves of the Trip Recorder, the Meter and the wall clock.
-/

namespace Sys2Proof.Machine

/-! ## Trips and thresholds -/

/-- A tariff of the active bank is one of a set that the bank holds. -/
theorem State.tariff_mem {s : State} {number : Nat} {t : Tariff} (h : s.tariff number = some t) :
    ∃ b, s.meter.active = some b ∧ t ∈ b.set.tariffs := by
  unfold State.tariff at h
  obtain ⟨b, hb, ht⟩ := Option.bind_eq_some_iff.mp h
  refine ⟨b, hb, ?_⟩
  unfold TariffSet.tariff at ht
  split at ht
  · cases ht
  · exact List.mem_of_getElem? ht

theorem State.ProgressBelow.tariff_sound {s : State} (h : s.ProgressBelow) {number : Nat} {t : Tariff}
    (ht : s.tariff number = some t) : t.sound := by
  obtain ⟨b, hb, hm⟩ := State.tariff_mem ht
  exact (h.1 b hb).2.1 t hm

/-- A sound tariff has a threshold above 0, and the first threshold is no lower than a regular one (R117, R187). -/
theorem Tariff.sound.thresholds {t : Tariff} (h : t.sound) (kind : ThresholdKind) :
    0 < t.threshold .regular ∧ t.threshold .regular ≤ t.threshold kind := by
  obtain ⟨hd, ht, hf⟩ := h
  refine ⟨Nat.mul_pos (by omega) ht, ?_⟩
  cases kind
  · exact Nat.le_mul_of_pos_left _ hf
  · exact Nat.le_refl _

/-- A drop adds to the fare alone, so the charged amount does not fall (R119, R130). -/
theorem Trip.charged_le_drop (p : Trip) (t : Tariff) : p.charged ≤ (p.drop t).charged := by
  simp only [Trip.charged, Trip.uncapped, Trip.drop, Trip.findCharged]
  cases p.price with
  | some price => exact Nat.le_refl _
  | none =>
    simp only
    omega

theorem Trip.charged_le_addExtra (p : Trip) (index amount : Nat) :
    p.charged ≤ (p.addExtra index amount).charged := by
  simp only [Trip.charged, Trip.uncapped, Trip.addExtra, Trip.findCharged]
  cases p.price with
  | some price =>
    simp only
    omega
  | none =>
    simp only
    omega

/-- The drop test, said at once: it leaves the trip after its drops, and the notices of the drops. With as many
drops allowed as the progress can give, the progress ends below the threshold in force (R119). -/
theorem State.dropLoop_eq (fuel : Nat) {s : State} {p : Trip} {t : Tariff} (hp : s.meter.trip = some p)
    (ht : s.tariff p.tariff = some t) :
    ∃ p' c, s.cab.Noticed c
      ∧ s.dropLoop fuel = (s.setMeter { s.meter with trip := some p' }).setCab c
      ∧ p'.job = p.job ∧ p'.tariff = p.tariff ∧ p.charged ≤ p'.charged
      ∧ (t.sound → p.progress / t.threshold .regular < fuel → p'.progress < t.threshold p'.threshold) := by
  induction fuel generalizing s p with
  | zero =>
    refine ⟨p, s.cab, .of_eq rfl rfl fun _ => rfl, ?_, rfl, rfl, Nat.le_refl _, fun _ h => (Nat.not_lt_zero _ h).elim⟩
    rw [State.dropLoop, ← hp]
    rfl
  | succ n ih =>
    rw [State.dropLoop, hp]
    simp only [ht]
    split
    · rename_i hle
      obtain ⟨c, hc, hdrop⟩ : ∃ c, s.cab.Noticed c
          ∧ s.takeDrop p t = (s.setMeter { s.meter with trip := some (p.drop t) }).setCab c :=
        (s.setMeter { s.meter with trip := some (p.drop t) }).raise_eq _ _ _
      obtain ⟨p', c', hc', hloop, hjob, htar, hch, hbelow⟩ :=
        ih (s := s.takeDrop p t) (p := p.drop t) (by rw [hdrop]; rfl) (by rw [hdrop]; exact ht)
      rw [hdrop] at hc' hloop
      refine ⟨p', c', hc.trans hc', ?_,
        hjob, htar, (p.charged_le_drop t).trans hch, fun hs hlt => hbelow hs ?_⟩
      · rw [hdrop, hloop]
        rfl
      · obtain ⟨hpos, hth⟩ := hs.thresholds p.threshold
        have hdiv : (p.progress - t.threshold .regular) / t.threshold .regular + 1
            = p.progress / t.threshold .regular := by
          rw [Nat.div_eq_sub_div hpos (hth.trans hle)]
        have hmono : (p.progress - t.threshold p.threshold) / t.threshold .regular
            ≤ (p.progress - t.threshold .regular) / t.threshold .regular :=
          Nat.div_le_div_right (by omega)
        show (p.progress - t.threshold p.threshold) / t.threshold .regular < n
        omega
    · rename_i hgt
      refine ⟨p, s.cab, .of_eq rfl rfl fun _ => rfl, ?_, rfl, rfl, Nat.le_refl _, fun _ _ => Nat.lt_of_not_le hgt⟩
      rw [← hp]
      rfl

section

variable {done : Prop}

/-- The trip changes in what neither its job, its charged amount nor its progress is read from. -/
theorem State.updateTrip_moves (s : State) {f : Trip → Trip} (hjob : ∀ p, (f p).job = p.job)
    (hcharged : ∀ p, (f p).charged = p.charged)
    (hprogress : ∀ p, (f p).tariff = p.tariff ∧ (f p).progress = p.progress ∧ (f p).threshold = p.threshold) :
    s.Moves done (s.updateTrip f) := by
  cases hp : s.meter.trip with
  | none =>
    have : s.updateTrip f = s := by
      rw [State.updateTrip, hp, Option.map_none, ← hp]
      rfl
    rw [this]
    exact .refl s
  | some p =>
    rw [State.updateTrip, hp, Option.map_some]
    refine .trip hp (hjob p) (hcharged p).ge fun h => ⟨h.1, h.2.1, fun p' hp' => ?_⟩
    obtain ⟨ht, hpr, hth⟩ := hprogress p
    cases Option.some.inj hp'
    obtain ⟨t, h1, h2⟩ := h.2.2 p hp
    exact ⟨t, by rw [ht]; exact h1, by rw [hpr, hth]; exact h2⟩

/-- A contribution, and the drops it gives. -/
theorem State.contribute_moves (s : State) {f : Tariff → Trip → Trip} (hjob : ∀ t p, (f t p).job = p.job)
    (hcharged : ∀ t p, (f t p).charged = p.charged) (htariff : ∀ t p, (f t p).tariff = p.tariff) :
    s.Moves done (s.underTariff f).dropTest := by
  cases hp : s.meter.trip with
  | none =>
    have : (s.underTariff f).dropTest = s := by
      simp only [State.underTariff, hp, State.dropTest, State.dropBound, State.dropLoop]
    rw [this]
    exact .refl s
  | some p =>
    cases ht : s.tariff p.tariff with
    | none =>
      have : (s.underTariff f).dropTest = s := by
        simp only [State.underTariff, hp, ht, State.dropTest, State.dropBound, State.dropLoop]
      rw [this]
      exact .refl s
    | some t =>
      have hq : s.underTariff f = s.setMeter { s.meter with trip := some (f t p) } := by
        simp only [State.underTariff, hp, ht]
      have htar : (s.setMeter { s.meter with trip := some (f t p) }).tariff (f t p).tariff = some t := by
        rw [htariff]
        exact ht
      have hbound : (s.setMeter { s.meter with trip := some (f t p) }).dropBound
          = (f t p).progress / t.threshold .regular + 1 := by
        rw [State.dropBound, State.setMeter_meter]
        simp only [htar]
      obtain ⟨p', c, hc, hloop, hjob', htar', hch, hbelow⟩ :=
        State.dropLoop_eq ((f t p).progress / t.threshold .regular + 1)
          (s := s.setMeter { s.meter with trip := some (f t p) }) rfl htar
      rw [State.dropTest, hq, hbound, hloop]
      refine .trans (s' := s.setMeter { s.meter with trip := some p' }) ?_ (.cab hc)
      refine .trip hp (hjob'.trans (hjob t p)) ((hcharged t p).ge.trans hch) fun h => ⟨h.1, h.2.1, ?_⟩
      intro p'' hp''
      cases Option.some.inj hp''
      refine ⟨t, ?_, hbelow (h.tariff_sound ht) (Nat.lt_succ_self _)⟩
      rw [htar', htariff]
      exact ht

theorem State.accrue_moves (s : State) : s.Moves done s.accrue := by
  refine s.contribute_moves (fun t p => ?_) (fun t p => ?_) (fun t p => ?_)
  · unfold Trip.accrue
    split <;> rfl
  · unfold Trip.accrue
    split <;> rfl
  · unfold Trip.accrue
    split <;> rfl

/-! ## Sums and settlements -/

/-- The current shift record changes in what its balance is not read from. -/
theorem State.updateShift_moves (s : State) {f : ShiftRecord → ShiftRecord}
    (hf : ∀ r, r.balanced → (f r).balanced) : s.Moves done (s.updateShift f) := by
  refine .trips ?_ id fun h => ⟨fun r hr => ?_, h.2⟩
  · simp
  · simp only [State.setTrips_trips, Option.map_eq_some_iff] at hr
    obtain ⟨r', hr', rfl⟩ := hr
    exact hf r' (h.1 r' hr')

theorem State.countFault_moves (s : State) : s.Moves done s.countFault := s.updateShift_moves fun _ h => h

theorem State.addVacant_moves (s : State) (m : Nat) : s.Moves done (s.addVacant m) :=
  s.updateShift_moves fun _ h => h

theorem State.addClamped_moves (s : State) (excess : Nat) : s.Moves done (s.addClamped excess) :=
  s.updateShift_moves fun _ h => h

theorem State.addOdometer_moves (s : State) (m : Nat) : s.Moves done (s.addOdometer m) := .trips rfl id id

theorem State.addMetres_moves (s : State) (m : Nat) : s.Moves done (s.updateTrip (Trip.addMetres m)) :=
  s.updateTrip_moves (fun _ => rfl) (fun _ => rfl) (fun _ => ⟨rfl, rfl, rfl⟩)

theorem State.refuseState_moves (s : State) : s.Moves done s.refuseState.state := by
  unfold State.refuseState
  split
  · exact .refl s
  · exact s.countFault_moves

theorem State.clampMetres_moves (s : State) : s.Moves done s.clampMetres := by
  unfold State.clampMetres
  split
  · exact .refl s
  · rename_i c hc
    split
    · have hm : s.Moves done (s.setMeter { s.meter with residue := s.meter.residue, m := c.vmax }) :=
        .metres fun h => by
          simp only [State.ResidueBelow, hc, State.setMeter_meter] at h ⊢
          exact h
      have hflag : ∀ q : State, q.Moves done (q.updateTrip (fun p => { p with clamp := true })) :=
        fun q => q.updateTrip_moves (fun _ => rfl) (fun _ => rfl) (fun _ => ⟨rfl, rfl, rfl⟩)
      simp only
      split
      · exact hm.trans (hflag _)
      · exact hm.trans ((hflag _).trans (State.addClamped_moves _ _))
    · exact .refl s

theorem State.clearMetres_moves (s : State) : s.Moves done s.clearMetres := by
  refine .metres (residue := s.meter.residue) fun h => ?_
  simp only [State.ResidueBelow, State.setMeter_meter] at h ⊢
  split at h
  · exact h
  · exact ⟨h.1, trivial⟩

theorem State.settleVacant_moves (s : State) : s.Moves done s.settleVacant :=
  s.clampMetres_moves.trans ((State.addOdometer_moves _ _).trans
    ((State.addVacant_moves _ _).trans (State.clearMetres_moves _)))

theorem State.settleHired_moves (s : State) : s.Moves done s.settleHired :=
  s.clampMetres_moves.trans ((State.addOdometer_moves _ _).trans
    ((State.addMetres_moves _ _).trans (State.clearMetres_moves _)))

theorem State.pulse_moves (s : State) : s.Moves done (s.setMeter s.meter.pulse) := by
  unfold Meter.pulse
  split
  · exact .refl s
  · rename_i c hc
    refine .metres fun h => ?_
    simp only [State.ResidueBelow, hc, State.setMeter_meter] at h ⊢
    exact ⟨h.1, h.2.1, h.2.2.1, h.2.2.2.1, Nat.mod_lt _ (by omega)⟩

/-! ## The seconds tick and the clock -/

/-- A tariff change rescales the progress below the new threshold (R126). -/
theorem State.changeTariff_moves {s : State} {p : Trip} (hp : s.meter.trip = some p) (number : Nat) :
    s.Moves done (s.changeTariff p number) := by
  unfold State.changeTariff
  split
  · rename_i old new hold hnew
    refine .trans (s' := s.setMeter { s.meter with trip := some (p.change old new number) }) ?_
      (State.raise_moves _ _ _ _)
    refine .trip hp rfl (Nat.le_refl _) fun h => ⟨h.1, h.2.1, fun p' hp' => ?_⟩
    cases Option.some.inj hp'
    refine ⟨new, hnew, ?_⟩
    obtain ⟨t, ht, hlt⟩ := h.2.2 p hp
    have htold : t = old := Option.some.inj (ht.symm.trans hold)
    subst htold
    obtain ⟨hpos, hth⟩ := (h.tariff_sound hnew).thresholds p.threshold
    refine Nat.div_lt_of_lt_mul ?_
    exact Nat.mul_lt_mul_of_pos_right hlt (hpos.trans_le hth)
  · exact .refl s

theorem State.evaluateBand_moves (s : State) : s.Moves done s.evaluateBand := by
  unfold State.evaluateBand
  split
  · rename_i hp _
    split
    · exact .refl s
    · exact State.changeTariff_moves hp _
  · exact .refl s

theorem State.allocate_moves (s : State) : s.Moves done s.allocate := by
  have hodo := s.addOdometer_moves (done := done) s.meter.m
  unfold State.allocate
  simp only
  split
  · exact hodo
  · exact hodo.trans (State.addVacant_moves _ _)
  · exact hodo.trans (State.addMetres_moves _ _)
  · exact hodo.trans (State.addVacant_moves _ _)

theorem State.tickMeter_moves (s : State) : s.Moves done s.tickMeter := by
  have hsum : s.Moves done s.clampMetres.allocate := s.clampMetres_moves.trans (State.allocate_moves _)
  have haccrue : ∀ q : State, q.Moves done (if q.meter.mode = .hired then q.accrue else q) := fun q => by
    split
    · exact q.accrue_moves
    · exact .refl q
  have hband : ∀ q : State, q.Moves done (if q.onMinute then q.evaluateBand else q) := fun q => by
    split
    · exact q.evaluateBand_moves
    · exact .refl q
  exact hsum.trans ((haccrue _).trans ((State.clearMetres_moves _).trans (hband _)))

theorem WallClock.advance_inRange {c : WallClock} (h : c.day ≤ 65535 ∧ c.dayOfWeek ≤ 6 ∧ c.second ≤ 86399) :
    c.advance.day ≤ 65535 ∧ c.advance.dayOfWeek ≤ 6 ∧ c.advance.second ≤ 86399 := by
  unfold WallClock.advance
  split
  · exact ⟨h.1, h.2.1, by simpa using ‹c.second < 86399›⟩
  · simp only
    omega

theorem State.tickClock_moves (s : State) : s.Moves done s.tickClock := by
  refine .dcu .inl (fun h c hc => ?_) id
  obtain ⟨c', hc', rfl⟩ := Option.map_eq_some_iff.mp (show s.dcu.clock.map WallClock.advance = some c from hc)
  exact WallClock.advance_inRange (h c' hc')

theorem State.secondsTick_moves (s : State) : s.Moves done s.secondsTick :=
  s.tickClock_moves.trans ((State.tickMeter_moves _).trans (State.tickMessages_moves _))

/-- A number in some bytes is below 256 to their count. -/
theorem nat_lt (bytes : List Byte) : nat bytes < 256 ^ bytes.length := by
  have hstep : ∀ (l : List Byte) (n k : Nat), n < 256 ^ k →
      l.foldl (fun n b => n * 256 + b.toNat) n < 256 ^ (k + l.length) := by
    intro l
    induction l with
    | nil => exact fun n k h => h
    | cons b rest ih =>
      intro n k h
      have hb := b.isLt
      have : k + (b :: rest).length = (k + 1) + rest.length := by
        simp only [List.length_cons]
        omega
      rw [this]
      refine ih _ (k + 1) ?_
      rw [Nat.pow_succ]
      simp only
      omega
  simpa [nat] using hstep bytes 0 0 (by simp)

theorem natAt_lt (body : List Byte) (offset width : Nat) : natAt body offset width < 256 ^ width :=
  (nat_lt _).trans_le (Nat.pow_le_pow_right (by omega) (List.length_take_le _ _))

theorem State.takeTimeSet_moves (s : State) (body : List Byte) :
    s.Moves done (s.takeTimeSet (WallClock.read body)) := by
  unfold State.takeTimeSet
  split
  · rename_i hr
    refine .trans (s' := s.setDcu { s.dcu with clock := some (WallClock.read body) }) ?_
      ((State.raise_moves _ _ _ _).trans (State.evaluateBand_moves _))
    refine .dcu .inl (fun _ c hc => ?_) id
    cases Option.some.inj hc
    simp only [WallClock.inRange, Bool.and_eq_true, decide_eq_true_eq] at hr
    have hday : (WallClock.read body).day < 65536 := natAt_lt _ _ _
    exact ⟨by omega, hr.1, hr.2⟩
  · exact .refl s

/-! ## Extras, recalls and queries -/

theorem State.extra_moves (s : State) (index : Nat) : s.Moves done (s.extra index).state := by
  unfold State.extra
  split_ifs
  · exact .refl s
  · exact s.refuseState_moves
  · split
    · exact s.refuseState_moves
    · rename_i p hp
      split
      · exact .refl s
      · refine .trip (p' := p.addExtra index (s.extraRate index).amount) hp rfl (p.charged_le_addExtra _ _)
          fun h => ⟨h.1, h.2.1, fun p' hp' => ?_⟩
        cases Option.some.inj hp'
        exact h.2.2 p hp

theorem State.tripReady_moves (s : State) (before : Trips) : s.Moves done (s.tripReady before) := by
  unfold State.tripReady
  split
  · exact s.choose_moves
  · exact .refl s

theorem Trips.find_eq_some {t : Trips} {sequence : Nat} {h : HeldTrip} (hf : t.find sequence = some h) :
    t.log[slotOf sequence]? = some (some h) ∧ h.record.sequence = sequence := by
  unfold Trips.find at hf
  split at hf
  · rename_i h' hlog
    split at hf
    · cases Option.some.inj hf
      exact ⟨hlog, by assumption⟩
    · cases hf
  · cases hf

/-- The report state of a record is no part of its slot (R141, R143). -/
theorem Trips.ring.markReported {t : Trips} (h : t.ring) (sequence : Nat) (reported : Bool) :
    (t.markReported sequence reported).ring := by
  unfold Trips.markReported
  split
  · rename_i held hf
    obtain ⟨hlog, -⟩ := Trips.find_eq_some hf
    refine ⟨by simpa using h.1, h.2.1, fun n x hx => ?_⟩
    simp only [List.getElem?_set] at hx
    split at hx
    · rename_i hn
      subst hn
      split at hx
      · cases Option.some.inj (Option.some.inj hx)
        exact h.2.2 _ held hlog
      · cases hx
    · exact h.2.2 n x hx
  · exact h

theorem State.markReported_moves (s : State) (sequence : Nat) (reported : Bool) :
    s.Moves done (s.setTrips (s.trips.markReported sequence reported)) := by
  have hshift : (s.trips.markReported sequence reported).current = s.trips.current
      ∧ (s.trips.markReported sequence reported).previous = s.trips.previous := by
    unfold Trips.markReported
    split <;> exact ⟨rfl, rfl⟩
  refine .trips (by rw [hshift.1]) (fun h => h.markReported _ _) fun h => ?_
  simp only [State.Balanced, State.setTrips_trips, hshift.1, hshift.2] at h ⊢
  exact h

theorem State.takeRecall_moves (s : State) (sequence : Nat) : s.Moves done (s.takeRecall sequence) := by
  unfold State.takeRecall
  split
  · exact .refl s
  · split
    · exact (s.markReported_moves _ _).trans (State.tripReady_moves _ _)
    · exact s.queue_moves (by decide) _

theorem State.takeTotalsQuery_moves (s : State) (selector : Nat) : s.Moves done (s.takeTotalsQuery selector) := by
  unfold State.takeTotalsQuery
  split
  · exact .refl s
  · split
    · exact s.queue_moves (by decide) _
    · exact s.queue_moves (by decide) _

/-! ## A completed transmission (R50) -/

theorem State.releasePtt_moves (s : State) : s.Moves done s.releasePtt := by
  have hsilence : s.Moves done (s.setLink { s.link with silence := s.link.silence.resume s.now }) :=
    .link (.inl rfl)
  unfold State.releasePtt
  simp only
  split
  · exact hsilence.trans (.link (.inl rfl))
  · exact hsilence

theorem State.bidCompleted_moves (s : State) (number : Nat) : s.Moves done (s.bidCompleted number) := by
  unfold State.bidCompleted
  split
  · split
    · exact (s.putOffer_moves _).trans (State.raise_moves _ _ _ _)
    · exact .refl s
  · exact .refl s

theorem State.beaconCompleted_moves (s : State) : s.Moves done s.beaconCompleted := by
  unfold State.beaconCompleted
  split
  · rename_i hcall
    have hset : ∀ due, s.Moves done
        (s.setEmu { s.emu with beacons := countUp s.emu.beacons, beacon := some due }) := fun due => by
      refine s.setEmu_moves rfl rfl fun h => ⟨h.1, ?_, h.2.2⟩
      exact ⟨fun _ => hcall, fun _ => rfl⟩
    simp only
    generalize (if s.emu.state = .active then s.op.beaconInterval else s.op.trackingInterval) = interval
    split
    · exact hset _
    · exact (hset _).trans (State.emergencyNotice_moves _ _ _ _ _)
  · exact .refl s

theorem State.itemCompleted_moves (s : State) (item : TxItem) : s.Moves done (s.itemCompleted item) := by
  unfold State.itemCompleted
  split
  · split
    · refine .trans (s' := s.setUls { s.uls with queue := s.uls.queue.filter (fun x => !x.isOnAir) })
        (.radio (.of_queue rfl (kinds_sublist List.filter_sublist))) ?_
      unfold State.entryCompleted
      split
      · exact State.bidCompleted_moves _ _
      · exact .refl _
    · exact .refl s
  · exact s.markReported_moves _ _
  · exact s.beaconCompleted_moves

/-- A transmission completes when its air time has run. -/
theorem State.completeTx_moves (s : State) (tx : Transmission) (h : done) : s.Moves done (s.completeTx tx) :=
  s.releasePtt_moves.trans
    (.trans (.finish s.releasePtt s.releasePtt.op.minWindow h)
      ((State.itemCompleted_moves _ _).trans (State.choose_moves _)))

end

end Sys2Proof.Machine
end

section
/-!
PROOFS. The changes of the meter state (R110), and what a request and a telegram can do: moves, and at a request at
most one change of the meter state among them.
-/

namespace Sys2Proof.Machine

/-- The changes of the meter state, each with all that changes together with it. -/
inductive State.Turn : State → State → Prop
  /-- R121, R123: the bank is swapped if it is due, a trip begins, and the job it is bound to is ON-BOARD. -/
  | hire {s : State} {p : Trip} {b : Bank} {pending : Option Bank} {ready : Bool} {jobs : JobBook} :
      s.meter.mode = .vacant →
      (s.meter.active = some b ∧ pending = s.meter.pendingBank) ∨ (s.meter.pendingBank = some b ∧ pending = none) →
      p.progress = 0 → p.threshold = .first → p.tariff = s.select b.set →
      (p.job = none ∧ jobs = s.jobs)
        ∨ (∃ j, s.jobs.active = some j ∧ j.state ≠ .onBoard ∧ p.job = some j.number
          ∧ jobs = { s.jobs with active := some { j with state := .onBoard } }) →
      State.Turn s ((s.setJobs jobs).setMeter
        { s.meter with
          mode := .hired, trip := some p, active := some b, pendingBank := pending, ready := ready })
  /-- R127, R128. -/
  | run {s : State} {m : MeterMode} :
      (s.meter.mode = .hired ∧ m = .stopped) ∨ (s.meter.mode = .stopped ∧ m = .hired) →
      State.Turn s (s.setMeter { s.meter with mode := m })
  /-- R103, R131, R139: the trip is closed, and the job it was bound to leaves with its messages. -/
  | pay {s : State} {p : Trip} {jobs : JobBook} {m : Messages} (form : PayForm) (stamp : Nat) :
      s.meter.mode = .stopped → s.meter.trip = some p →
      ((p.job = none ∨ s.jobs.active = none) ∧ jobs = s.jobs ∧ m = s.msgs)
        ∨ (∃ j, s.jobs.active = some j ∧ jobs = { s.jobs with active := none }
          ∧ m.store.Sublist s.msgs.store ∧ ∀ x ∈ m.store, x.linkedTo j.number = false) →
      State.Turn s ((((s.setTrips (s.trips.close p form false stamp)).setJobs jobs).setMsgs m).setMeter
        { s.meter with mode := .vacant, trip := none })
  /-- R112, R146. -/
  | openShift {s : State} (number driver : Nat) (opened : Option WallStamp) : s.meter.mode = .offShift →
      State.Turn s ((s.setMeter { s.meter with mode := .vacant }).setTrips
        { s.trips with lastShift := number, current := some (ShiftRecord.new number driver opened) })
  /-- R86, R113, R148. -/
  | closeShift {s : State} {t : Trips} (closed : Option WallStamp) : s.meter.mode = .vacant → s.jobs.jobs = [] →
      (∃ r, s.trips.current = some r
          ∧ t = { s.trips with previous := some { r with closed := closed }, current := none })
        ∨ (s.trips.current = none ∧ t = s.trips) →
      State.Turn s (((s.setMeter { s.meter with mode := .offShift }).setTrips t).setOffers
        { s.offers with table := [] })

/-- What the owner of a request may do: moves, with at most one change of the meter state among them. -/
def State.Acts (done : Prop) (s s' : State) : Prop :=
  s.Moves done s' ∨ ∃ q q', s.Moves done q ∧ q.Turn q' ∧ q'.Moves done s'

section

variable {done : Prop}

theorem State.Turn.acts {s q q' s' : State} (h : s.Moves done q) (ht : q.Turn q') (h' : q'.Moves done s') :
    s.Acts done s' := .inr ⟨q, q', h, ht, h'⟩

/-! ## The hire start (R121 to R123) -/

theorem State.settleVacant_work (s : State) :
    s.settleVacant = (s.setMeter s.settleVacant.meter).setTrips s.settleVacant.trips := by
  unfold State.settleVacant State.clampMetres
  split
  · rfl
  · split
    · simp only
      split
      · rfl
      · rfl
    · rfl

/-- A clamp and a settlement read no bank. -/
theorem State.clampMetres_setBanks (s : State) (active pending : Option Bank) (ready : Bool) :
    (s.setMeter { s.meter with active := active, pendingBank := pending, ready := ready }).clampMetres =
      s.clampMetres.setMeter
        { s.clampMetres.meter with active := active, pendingBank := pending, ready := ready } := by
  unfold State.clampMetres
  cases hc : s.meter.calibration with
  | none =>
    simp only [State.setMeter_meter, hc]
  | some c =>
    by_cases hm : c.vmax < s.meter.m
    · by_cases ho : s.meter.mode = .offShift
      · simp only [State.setMeter_meter, hc, hm, ho, if_true]
        rfl
      · simp only [State.setMeter_meter, hc, hm, ho, if_true, if_false]
        rfl
    · simp only [State.setMeter_meter, hc, hm, if_false]

theorem State.settleVacant_setBanks (s : State) (active pending : Option Bank) (ready : Bool) :
    (s.setMeter { s.meter with active := active, pendingBank := pending, ready := ready }).settleVacant =
      s.settleVacant.setMeter
        { s.settleVacant.meter with active := active, pendingBank := pending, ready := ready } := by
  unfold State.settleVacant
  rw [State.clampMetres_setBanks]
  rfl

theorem State.settleVacant_jobs (s : State) : s.settleVacant.jobs = s.jobs := by
  rw [s.settleVacant_work]
  rfl

/-- The banks in force at a hire start: a swap that is due puts the pending bank in the active place (R121). -/
theorem State.swapBank_eq {s : State} {b : Bank} (h : s.swapBank.meter.active = some b) :
    ∃ pending ready, s.swapBank = s.setMeter { s.meter with active := some b, pendingBank := pending, ready := ready }
      ∧ ((s.meter.active = some b ∧ pending = s.meter.pendingBank)
        ∨ (s.meter.pendingBank = some b ∧ pending = none)) := by
  unfold State.swapBank at h ⊢
  split
  · rename_i due hdue
    rw [hdue] at h
    cases Option.some.inj h
    exact ⟨none, false, rfl, .inr ⟨(Option.filter_eq_some_iff.mp hdue).1, rfl⟩⟩
  · rename_i hdue
    rw [hdue] at h
    refine ⟨s.meter.pendingBank, s.meter.ready, ?_, .inl ⟨h, rfl⟩⟩
    rw [← h]
    rfl

theorem State.swapBank_of_none {s : State} (h : s.swapBank.meter.active = none) : s.swapBank = s := by
  unfold State.swapBank at h ⊢
  split
  · rename_i hdue
    rw [hdue] at h
    cases h
  · rfl

/-- A step of the scheduler before the meter changes is one after it. -/
theorem State.RadioStep.setMeter {s s' : State} (h : s.RadioStep s') (x : Meter) :
    (s.setMeter x).RadioStep (s'.setMeter x) :=
  h.congr rfl rfl rfl rfl (by rw [State.radioWork, h.work]; rfl) rfl rfl

theorem State.RadioStep.setOffers {s s' : State} (h : s.RadioStep s') (o : Offers) :
    (s.setOffers o).RadioStep (s'.setOffers o) :=
  h.congr rfl rfl rfl rfl (by rw [State.radioWork, h.work]; rfl) rfl rfl

theorem State.setMeter_setJobs (s : State) (x : Meter) (b : JobBook) :
    (s.setMeter x).setJobs b = (s.setJobs b).setMeter x := rfl

/-- A hire start that binds a job, in the order in which its parts are written. -/
theorem State.startHire_bound (s : State) (set : TariffSet) (j : Job) :
    ∃ body, s.startHire set (some j) =
      (((((s.settleVacant.setJobs { s.settleVacant.jobs with active := some { j with state := .onBoard } }).setMeter
          { s.settleVacant.meter with trip := some (s.settleVacant.newTrip set (some j)) }).queue
            .jobStatus body)).setMeter
          { s.settleVacant.meter with
            mode := .hired, trip := some (s.settleVacant.newTrip set (some j)) }).pruneOffers := by
  refine ⟨jobStatusBody ((s.settleVacant.setMeter
    { s.settleVacant.meter with trip := some (s.settleVacant.newTrip set (some j)) }).setJobs
      { s.settleVacant.jobs with active := some { j with state := .onBoard } })
    { j with state := .onBoard } .onBoard, ?_⟩
  unfold State.startHire State.bindIf State.bindJob State.jobStatus
  simp only [State.queue_meter]
  rfl

theorem State.startHire_acts {s : State} {b : Bank} (hm : s.meter.mode = .vacant)
    (hb : s.swapBank.meter.active = some b) {bound : Option Job}
    (hbound : ∀ j, bound = some j → s.jobs.active = some j ∧ j.state ≠ .onBoard) :
    s.Acts done (s.swapBank.startHire b.set bound) := by
  obtain ⟨pending, ready, hswap, hbanks⟩ := State.swapBank_eq hb
  have hsettle : s.Moves done s.settleVacant := s.settleVacant_moves
  have hmode : s.settleVacant.meter.mode = .vacant := hsettle.mode.trans hm
  have hmeter : s.settleVacant.meter.active = s.meter.active
      ∧ s.settleVacant.meter.pendingBank = s.meter.pendingBank := by
    have h : s.settleVacant.meter =
        { s.settleVacant.meter with
          active := s.meter.active, pendingBank := s.meter.pendingBank, ready := s.meter.ready } :=
      congrArg State.meter (s.settleVacant_setBanks s.meter.active s.meter.pendingBank s.meter.ready)
    exact ⟨by rw [h], by rw [h]⟩
  rw [← hmeter.1, ← hmeter.2] at hbanks
  have hq := s.settleVacant_setBanks (some b) pending ready
  rw [← hswap] at hq
  have hjobs : s.settleVacant.jobs = s.jobs := s.settleVacant_jobs
  generalize hr : s.settleVacant = r at hmode hbanks hsettle hq hjobs
  cases bound with
  | none =>
    unfold State.startHire
    simp only [hq]
    exact State.Turn.acts hsettle (.hire (jobs := r.jobs) (ready := ready) hmode hbanks
      (p := (r.setMeter { r.meter with active := some b, pendingBank := pending, ready := ready }).newTrip b.set none)
      rfl rfl rfl (.inl ⟨rfl, rfl⟩)) (State.pruneOffers_moves _)
  | some j =>
    obtain ⟨hactive, hstate⟩ := hbound j rfl
    obtain ⟨body, hstart⟩ := s.swapBank.startHire_bound b.set j
    rw [hstart, hq]
    simp only [State.setMeter_jobs, State.setMeter_meter, State.setMeter_setJobs, State.setMeter_setMeter]
    generalize hp : State.newTrip _ b.set (some j) = p
    have hpeq : p.progress = 0 ∧ p.threshold = .first ∧ p.tariff = r.select b.set ∧ p.job = some j.number := by
      rw [← hp]
      exact ⟨rfl, rfl, rfl, rfl⟩
    obtain ⟨hprogress, hthreshold, htariff, hjob⟩ := hpeq
    refine State.Turn.acts hsettle
      (.hire (ready := ready) hmode hbanks hprogress hthreshold htariff
        (.inr ⟨j, hjobs ▸ hactive, hstate, hjob, rfl⟩))
      (.trans (.radio ?_) (State.pruneOffers_moves _))
    have hqueue : ∀ (q : State) (x y : Meter),
        (q.setMeter y).RadioStep (((q.setMeter x).queue .jobStatus body).setMeter y) :=
      fun q x y => ((q.setMeter x).queue_radioStep (by decide) body).setMeter y
    exact hqueue _ _ _

theorem State.hireWith_acts {s : State} (hm : s.meter.mode = .vacant) {bound : Option Job}
    (hbound : ∀ j, bound = some j → s.jobs.active = some j ∧ j.state ≠ .onBoard) :
    s.Acts done (s.hireWith bound).state := by
  unfold State.hireWith
  simp only
  split
  · rename_i hb
    exact State.startHire_acts hm hb hbound
  · rename_i hb
    rw [State.swapBank_of_none hb]
    exact .inl (.refl s)

theorem State.hire_acts (s : State) (form : Byte) : s.Acts done (s.hire form).state := by
  unfold State.hire
  split_ifs with _ hm
  · exact .inl (.refl s)
  · exact .inl s.refuseState_moves
  · exact .inl (.refl s)
  · exact State.hireWith_acts (by simpa using hm) fun j h => nomatch h
  · split
    · rename_i j hj
      refine State.hireWith_acts (by simpa using hm) fun j' hj' => ?_
      cases Option.some.inj hj'
      obtain ⟨ha, hs⟩ := Option.filter_eq_some_iff.mp hj
      exact ⟨ha, by simpa using hs⟩
    · exact .inl s.refuseState_moves

/-! ## STOP and RESUME (R127, R128) -/

theorem State.stop_acts (s : State) : s.Acts done s.stop.state := by
  unfold State.stop
  split
  · exact .inl s.refuseState_moves
  · rename_i hm
    have hcontribute : ∀ m : Nat, s.Moves done
        (s.settleHired.underTariff (fun t p => { p with progress := p.progress + m * t.time })).dropTest :=
      fun m => s.settleHired_moves.trans
        (State.contribute_moves _ (f := fun t p => { p with progress := p.progress + m * t.time })
          (fun _ _ => rfl) (fun _ _ => rfl) (fun _ _ => rfl))
    have hstamp : ∀ q : State, q.Moves done (q.updateTrip (fun p => { p with stopStamp := some q.now })) :=
      fun q => q.updateTrip_moves (fun _ => rfl) (fun _ => rfl) (fun _ => ⟨rfl, rfl, rfl⟩)
    have hmoves := (hcontribute s.clampMetres.meter.m).trans (hstamp _)
    exact State.Turn.acts hmoves (.run (.inl ⟨hmoves.mode.trans (not_not.mp hm), rfl⟩)) (.refl _)

theorem State.resume_acts (s : State) : s.Acts done s.resume.state := by
  unfold State.resume
  split_ifs with hm
  · exact .inl s.refuseState_moves
  · exact .inl s.refuseState_moves
  · exact .inl s.refuseState_moves
  · have hmoves : s.Moves done
        (s.settleVacant.updateTrip (fun p => { p with part := true, resumed := true })) :=
      s.settleVacant_moves.trans
        (State.updateTrip_moves _ (fun _ => rfl) (fun _ => rfl) (fun _ => ⟨rfl, rfl, rfl⟩))
    exact State.Turn.acts hmoves (.run (.inr ⟨hmoves.mode.trans (not_not.mp hm), rfl⟩)) (.refl _)

/-! ## PAY (R131) -/

/-- A notice and a promotion read nothing of the meter. -/
theorem State.raise_setMeter (s : State) (x : Meter) (kind : NoticeKind) (cause : Nat) (summary : List Byte) :
    (s.setMeter x).raise kind cause summary = (s.raise kind cause summary).setMeter x := by
  unfold State.raise
  by_cases h : s.cab.mask.getLsbD kind.code = true
  · refine (if_pos h).trans ?_
    rw [if_pos h]
    rfl
  · refine (if_neg h).trans ?_
    rw [if_neg h]

theorem State.promote_setMeter (s : State) (x : Meter) : (s.setMeter x).promote = s.promote.setMeter x := by
  unfold State.promote
  simp only [State.setMeter_jobs]
  split
  · exact State.raise_setMeter (s.setJobs _) x _ _ _
  · rfl

theorem State.promote_meter (s : State) : s.promote.meter = s.meter := by
  unfold State.promote
  split
  · exact State.raise_meter _ _ _ _
  · rfl

theorem State.tripReady_radioStep (s : State) (before : Trips) : s.RadioStep (s.tripReady before) := by
  unfold State.tripReady
  split
  · exact s.choose_radioStep
  · exact .refl s

theorem State.payTrip_acts {s : State} {p : Trip} (hm : s.meter.mode = .stopped) (hp : s.meter.trip = some p)
    (form : PayForm) : s.Acts done (s.payTrip p form) := by
  let closed := (s.setMeter { s.meter with mode := .vacant }).closeTrip p form
  have hradio : ((s.setMeter { s.meter with mode := .vacant }).setTrips
      (s.trips.close p form false s.now)).RadioStep closed := State.tripReady_radioStep _ _
  have hpay : s.payTrip p form =
      (closed.tripClosed p.job).setMeter { (closed.tripClosed p.job).meter with trip := none } := rfl
  have hmeter : closed.meter = { s.meter with mode := .vacant } := by rw [hradio.work]; rfl
  have hjobs : closed.jobs = s.jobs := by rw [hradio.work]; rfl
  have hmsgs : closed.msgs = s.msgs := by rw [hradio.work]; rfl
  have hcab : closed.cab = s.cab := by rw [hradio.work]; rfl
  let vacant : Meter := { s.meter with mode := .vacant, trip := none }
  have hturn : ∀ {jobs : JobBook} {m : Messages}, _ → s.Turn
      ((((s.setTrips (s.trips.close p form false s.now)).setJobs jobs).setMsgs m).setMeter vacant) :=
    fun h => .pay form s.now hm hp h
  /- What the scheduler did at the close it does with the job and its messages gone. -/
  have hwork : ∀ (jobs : JobBook) (m : Messages),
      ((((s.setTrips (s.trips.close p form false s.now)).setJobs jobs).setMsgs m).setMeter vacant).RadioStep
        (((closed.setJobs jobs).setMsgs m).setMeter vacant) := fun jobs m =>
    hradio.congr rfl rfl rfl rfl (by rw [State.radioWork, hradio.work]; rfl)
      (by simp only [State.setMeter_air, State.setMsgs_air, State.setJobs_air, State.setTrips_air])
      (by simp only [State.setMeter_air, State.setMsgs_air, State.setJobs_air])
  have hself : (closed.setJobs s.jobs).setMsgs s.msgs = closed := by
    rw [← hjobs, ← hmsgs]
    rfl
  rw [hpay]
  unfold State.tripClosed
  split
  · rename_i j _ hj
    obtain ⟨m, c, hsub, hl, hc, hgone⟩ := (closed.setJobs { closed.jobs with active := none }).jobGone_eq j.number
    have hleave : (closed.leaveActive j).setMeter { (closed.leaveActive j).meter with trip := none } =
        ((((closed.setJobs { s.jobs with active := none }).setMsgs m).setMeter vacant).setCab c).promote := by
      unfold State.leaveActive
      rw [hgone, hjobs]
      rw [State.promote_meter, ← State.promote_setMeter]
      simp only [State.setCab_meter, State.setMsgs_meter, State.setJobs_meter, hmeter]
      rfl
    rw [hleave]
    refine State.Turn.acts (.refl s) (hturn (.inr ⟨j, by rw [← hjobs]; exact hj, rfl, ?_, hl⟩))
      (.trans (.radio (hwork _ m)) (.trans (.cab ?_) (State.promote_moves _)))
    · rw [State.setJobs_msgs, hmsgs] at hsub
      exact hsub
    · exact hc
  · rename_i hj
    refine State.Turn.acts (.refl s) (hturn (.inl ⟨.inr (hjobs ▸ hj), rfl, rfl⟩)) ?_
    have := hwork s.jobs s.msgs
    rw [hself] at this
    rw [hmeter]
    exact .radio this
  · rename_i hj
    refine State.Turn.acts (.refl s) (hturn (.inl ⟨.inl hj, rfl, rfl⟩)) ?_
    have := hwork s.jobs s.msgs
    rw [hself] at this
    rw [State.promote_meter, ← State.promote_setMeter, hmeter]
    exact .trans (.radio this) (State.promote_moves _)

theorem State.pay_acts (s : State) (form : Byte) : s.Acts done (s.pay form).state := by
  unfold State.pay
  split
  · exact .inl (.refl s)
  · split
    · exact .inl s.refuseState_moves
    · rename_i hm
      split
      · exact .inl s.refuseState_moves
      · rename_i hp
        split
        · exact .inl (.refl s)
        · exact State.payTrip_acts (not_not.mp hm) hp _

/-! ## SHIFT OPEN and SHIFT CLOSE (R112, R113) -/

theorem State.openShift_acts (s : State) (driver : Nat) : s.Acts done (s.openShift driver).state := by
  unfold State.openShift
  split_ifs with _ hm
  · exact .inl (.refl s)
  · exact .inl s.refuseState_moves
  · exact State.Turn.acts (.refl s)
      (.openShift (nextNumber s.trips.lastShift) driver s.wallStamp (not_not.mp hm)) (.refl _)

theorem State.closeShift_acts (s : State) : s.Acts done s.closeShift.state := by
  unfold State.closeShift
  split_ifs with hm _ _ hj
  · exact .inl s.refuseState_moves
  · exact .inl (.refl s)
  · exact .inl s.refuseState_moves
  · exact .inl s.refuseState_moves
  · have hv := not_not.mp hm
    have hnone := not_not.mp hj
    simp only [State.doneWith]
    unfold State.freezeShift
    split
    · rename_i r hr
      refine State.Turn.acts (.refl s)
        (.closeShift s.wallStamp hv hnone (.inl ⟨r, hr, rfl⟩)) ?_
      unfold State.emptyOffers
      refine .trans (.radio ?_) (State.removeEntries_moves _ _)
      rw [State.queue_offers]
      exact (State.queue_radioStep _ (kind := .shiftReport) (by decide) _).setOffers _
    · rename_i hr
      exact State.Turn.acts (.refl s) (.closeShift none hv hnone (.inr ⟨hr, rfl⟩)) (State.removeEntries_moves _ _)

end

end Sys2Proof.Machine
end

section
/-!
PROOFS. What a command does, said once: it closes a delivery that is overdue, brings the timer to its stamp and the
pins to their levels, and then makes moves and answers, with a change of the meter state only at a request.
-/

namespace Sys2Proof.Machine

/-- Moves, responses to requests and bytes from the air: what leaves the meter state as it is. -/
inductive State.Calm (done : Prop) : State → State → Prop
  | refl (s : State) : State.Calm done s s
  | trans {s s' s'' : State} : State.Calm done s s' → State.Calm done s' s'' → State.Calm done s s''
  | move {s s' : State} : s.Moves done s' → State.Calm done s s'
  /-- R205: a request is answered only while fewer than four responses wait. -/
  | respond {s : State} (kind : Byte) (code : RespCode) (fields : List (List Byte)) :
      s.cab.responses < Config.responsesMax → State.Calm done s (s.respond kind code fields)
  /-- R1: a byte opens or joins a delivery. -/
  | receive {s : State} (a : Air) : State.Calm done s (s.setAir a)

/-- The course of a command's effect: calm, or (where `turn` allows it) with one change of the meter state. -/
def State.Runs (done turn : Prop) (s s' : State) : Prop :=
  s.Calm done s' ∨ (turn ∧ ∃ q q', s.Calm done q ∧ q.Turn q' ∧ q'.Calm done s')

theorem State.Turn.frame {s s' : State} (h : s.Turn s') :
    s'.ms = s.ms ∧ s'.vdd = s.vdd ∧ s'.vbakLatch = s.vbakLatch ∧ s'.cd = s.cd ∧ s'.calen = s.calen
      ∧ s'.pending = s.pending ∧ s'.cab = s.cab := by
  cases h <;> exact ⟨rfl, rfl, rfl, rfl, rfl, rfl, rfl⟩

section

variable {done turn : Prop}

theorem State.Calm.frame {s s' : State} (h : s.Calm done s') :
    s'.ms = s.ms ∧ s'.vdd = s.vdd ∧ s'.vbakLatch = s.vbakLatch ∧ s'.cd = s.cd ∧ s'.calen = s.calen
      ∧ s'.pending = s.pending := by
  induction h with
  | refl s => exact ⟨rfl, rfl, rfl, rfl, rfl, rfl⟩
  | trans _ _ ih ih' =>
    obtain ⟨h1, h2, h3, h4, h5, h6⟩ := ih
    obtain ⟨k1, k2, k3, k4, k5, k6⟩ := ih'
    exact ⟨k1.trans h1, k2.trans h2, k3.trans h3, k4.trans h4, k5.trans h5, k6.trans h6⟩
  | move h => exact h.frame
  | respond => exact ⟨rfl, rfl, rfl, rfl, rfl, rfl⟩
  | receive => exact ⟨rfl, rfl, rfl, rfl, rfl, rfl⟩

theorem State.Calm.mode {s s' : State} (h : s.Calm done s') : s'.meter.mode = s.meter.mode := by
  induction h with
  | refl s => rfl
  | trans _ _ ih ih' => exact ih'.trans ih
  | move h => exact h.mode
  | respond => rfl
  | receive => rfl

theorem State.Calm.runs {s s' : State} (h : s.Calm done s') : s.Runs done turn s' := .inl h

theorem State.Moves.runs {s s' : State} (h : s.Moves done s') : s.Runs done turn s' := .inl (.move h)

theorem State.Runs.refl (s : State) : s.Runs done turn s := .inl (.refl s)

theorem State.Runs.before {s q s' : State} (hq : s.Calm done q) (h : q.Runs done turn s') :
    s.Runs done turn s' := by
  rcases h with h | ⟨ht, a, b, ha, hturn, hb⟩
  · exact .inl (.trans hq h)
  · exact .inr ⟨ht, a, b, .trans hq ha, hturn, hb⟩

theorem State.Runs.after {s q s' : State} (h : s.Runs done turn q) (hq : q.Calm done s') :
    s.Runs done turn s' := by
  rcases h with h | ⟨ht, a, b, ha, hturn, hb⟩
  · exact .inl (.trans h hq)
  · exact .inr ⟨ht, a, b, ha, hturn, .trans hb hq⟩

theorem State.Runs.frame {s s' : State} (h : s.Runs done turn s') :
    s'.ms = s.ms ∧ s'.vdd = s.vdd ∧ s'.vbakLatch = s.vbakLatch ∧ s'.cd = s.cd ∧ s'.calen = s.calen
      ∧ s'.pending = s.pending := by
  rcases h with h | ⟨-, a, b, ha, hturn, hb⟩
  · exact h.frame
  · obtain ⟨h1, h2, h3, h4, h5, h6⟩ := ha.frame
    obtain ⟨t1, t2, t3, t4, t5, t6, -⟩ := hturn.frame
    obtain ⟨k1, k2, k3, k4, k5, k6⟩ := hb.frame
    exact ⟨k1.trans (t1.trans h1), k2.trans (t2.trans h2), k3.trans (t3.trans h3), k4.trans (t4.trans h4),
      k5.trans (t5.trans h5), k6.trans (t6.trans h6)⟩

/-! ## Requests -/

/-- What the owner of a request does before it is answered. -/
theorem State.Acts.runs {s s' : State} (h : s.Acts done s') (ht : turn) :
    s.Runs done turn s' ∧ s'.cab.responses ≤ s.cab.responses := by
  rcases h with h | ⟨q, q', h, hturn, h'⟩
  · exact ⟨h.runs, h.responses⟩
  · obtain ⟨-, -, -, -, -, -, hcab⟩ := hturn.frame
    refine ⟨.inr ⟨ht, q, q', .move h, hturn, .move h'⟩, ?_⟩
    exact (hcab ▸ h'.responses).trans h.responses

/-- The mark of an overrun is set only while four responses wait (R205). -/
theorem State.overrun_moves (s : State) (hfull : Config.responsesMax ≤ s.cab.responses) :
    s.Moves done s.overrun :=
  .cab (.of_eq rfl rfl fun hroom => absurd hfull (Nat.not_le.2 hroom))

theorem State.answer_runs {s : State} (kind : Byte) {act : State → Answer}
    (hact : s.Runs done turn (act s).state ∧ (act s).state.cab.responses ≤ s.cab.responses) :
    s.Runs done turn (s.answer kind act) := by
  unfold State.answer
  split
  · rename_i hfull
    exact (s.overrun_moves hfull).runs
  · rename_i hroom
    exact hact.1.after (.respond _ _ _ (hact.2.trans_lt (Nat.lt_of_not_le hroom)))

theorem State.toHunt_moves (s : State) : s.Moves done s.toHunt := .cab (.of_eq rfl rfl fun _ => rfl)

theorem State.setAssembly_moves (s : State) (a : Assembly) : s.Moves done (s.setAssembly a) :=
  .cab (.of_eq rfl rfl fun _ => rfl)

theorem State.refuseFrame_calm (s : State) (kind : Byte) (code : RespCode) :
    s.Calm done (s.refuseFrame kind code) := by
  unfold State.refuseFrame State.answer
  split
  · rename_i hfull
    exact .move (s.overrun_moves hfull)
  · rename_i hroom
    exact .respond _ _ _ (Nat.lt_of_not_le hroom)

theorem State.refuseAt_calm (s : State) (fault : FrameFault) : s.Calm done (s.refuseAt fault) := by
  cases fault with
  | lengthOver => exact .trans (.move (s.setAssembly_moves _)) (State.refuseFrame_calm _ _ _)
  | check => exact .trans (.move s.toHunt_moves) (State.refuseFrame_calm _ _ _)
  | bodyLength => exact .trans (.move s.toHunt_moves) (State.refuseFrame_calm _ _ _)

theorem State.assemblyTimeout_calm (s : State) : s.Calm done s.assemblyTimeout := by
  unfold State.assemblyTimeout
  split
  · exact .refl s
  · split
    · exact .trans (.move s.toHunt_moves) (State.refuseFrame_calm _ _ _)
    · exact .refl s
  · split
    · exact .move s.toHunt_moves
    · exact .refl s

/-- No read changes the state (R207). -/
theorem State.readOfferText_state (s : State) (number first : Nat) : (s.readOfferText number first).state = s := by
  unfold State.readOfferText
  split
  · rfl
  · split <;> rfl

theorem State.readJobText_state (s : State) (number first : Nat) : (s.readJobText number first).state = s := by
  unfold State.readJobText
  split
  · rfl
  · split <;> rfl

theorem State.readTrip_state (s : State) (sequence : Nat) : (s.readTrip sequence).state = s := by
  unfold State.readTrip
  split <;> rfl

theorem State.readShift_state (s : State) (which : Nat) : (s.readShift which).state = s := by
  unfold State.readShift
  split
  · rfl
  · split <;> rfl

theorem State.readMessageFields_state (s : State) (number : Nat) : (s.readMessageFields number).state = s := by
  unfold State.readMessageFields
  split <;> rfl

theorem State.readMessageText_state (s : State) (number first : Nat) :
    (s.readMessageText number first).state = s := by
  unfold State.readMessageText
  split
  · rfl
  · split <;> rfl

theorem State.readMessagePhrase_state (s : State) (number phrase : Nat) :
    (s.readMessagePhrase number phrase).state = s := by
  unfold State.readMessagePhrase
  split
  · rfl
  · split <;> rfl

theorem State.readEmergency_state (s : State) : s.readEmergency.state = s := by
  unfold State.readEmergency
  split
  · rfl
  · rfl
  · split <;> rfl
  · split <;> rfl

theorem State.read_state (s : State) (body : List Byte) : (s.read body).state = s := by
  unfold State.read
  simp only
  split
  · rfl
  · exact s.readOfferText_state _ _
  · rfl
  · exact s.readJobText_state _ _
  · rfl
  · exact s.readTrip_state _
  · exact s.readShift_state _
  · rfl
  · split
    · exact s.readMessageFields_state _
    · exact s.readMessageText_state _ _
    · exact s.readMessagePhrase_state _ _
    · rfl
  · rfl
  · exact s.readEmergency_state
  · rfl
  · rfl

theorem State.noticeMask_moves (s : State) (enables : Half) : s.Moves done (s.noticeMask enables).state :=
  .cab (.of_eq rfl rfl fun _ => rfl)

theorem State.acts_of_eq {s s' : State} (h : s' = s) : s.Acts done s' := by
  rw [h]
  exact .inl (.refl s)

theorem State.serve_acts (s : State) (kind : Nat) (body : List Byte) : s.Acts done (s.serve kind body).state := by
  unfold State.serve
  simp only
  split
  · exact .inl (s.position_moves _ _ _)
  · exact .inl (s.accept_moves _)
  · exact .inl (s.decline_moves _)
  · exact .inl (s.arrived_moves _)
  · exact .inl (s.noShow_moves _)
  · exact s.hire_acts _
  · exact s.stop_acts
  · exact s.resume_acts
  · exact s.pay_acts _
  · exact .inl (s.extra_moves _)
  · exact s.openShift_acts _
  · exact s.closeShift_acts
  · exact State.acts_of_eq (s.read_state _)
  · exact .inl (s.markRead_moves _)
  · exact .inl (s.reply_moves _ _)
  · exact .inl (s.send_moves _)
  · exact .inl s.press_moves
  · exact .inl s.cancel_moves
  · exact .inl (s.noticeMask_moves _)
  · exact .inl (s.cabLoadOpen_moves _)
  · exact .inl (s.cabLoadData_moves _)
  · exact .inl (s.cabLoadCommit_moves _)

theorem State.takeFrame_runs (s : State) (got : List Byte) (ht : turn) : s.Runs done turn (s.takeFrame got) := by
  unfold State.takeFrame
  simp only
  split_ifs
  · exact (s.refuseAt_calm _).runs
  · exact (State.Calm.trans (.move s.toHunt_moves) (State.refuseFrame_calm _ _ _)).runs
  · exact (s.refuseAt_calm _).runs
  · exact .before (.move s.toHunt_moves) (State.answer_runs _ ((State.serve_acts _ _ _).runs ht))

theorem State.assembleByte_runs (s : State) (b : Byte) (ht : turn) : s.Runs done turn (s.assembleByte b) := by
  unfold State.assembleByte
  split
  · split
    · exact (s.setAssembly_moves _).runs
    · exact .refl s
  · exact (s.setAssembly_moves _).runs
  · split_ifs
    · exact (State.Calm.trans (.move (s.setAssembly_moves _)) (State.refuseFrame_calm _ _ _)).runs
    · exact s.takeFrame_runs _ ht
    · exact (s.setAssembly_moves _).runs

theorem State.cabByte_runs (s : State) (b : Byte) (ht : turn) : s.Runs done turn (s.cabByte b) :=
  .before s.assemblyTimeout_calm (State.assembleByte_runs _ _ ht)

/-! ## Deliveries -/

theorem State.handOver_moves (s : State) (g : Telegram) : s.Moves done (State.handOver g s) := by
  unfold State.handOver
  split
  · exact s.takeSiteBeacon_moves _ _
  · exact s.takeTimeSet_moves _
  · exact s.takeOffer_moves _ _
  · exact s.takeWithdraw_moves _
  · exact s.takeAward_moves _
  · exact s.takeAssign_moves _
  · exact s.takeJobCancel_moves _
  · exact s.takeMessage_moves _
  · exact s.takeAck_moves _
  · exact s.takeStandDown_moves _
  · exact s.takeRecall_moves _
  · exact s.takeTotalsQuery_moves _
  · exact s.takeStatusQuery_moves _ _
  · exact s.takeBar_moves
  · exact s.takeReinstate_moves
  · exact s.takeRestart_moves
  · exact s.airLoadOpen_moves _
  · exact s.writeLoad_moves _
  · exact s.airLoadCommit_moves _

theorem State.takeDelivery_moves (s : State) (d : Delivery) (mine : Telegram → Bool) :
    s.Moves done (s.takeDelivery d mine State.handOver) := by
  have hclose : s.Moves done s.closeRx := .air (.inr rfl)
  have hfound : ∀ site, s.Moves done (s.closeRx.linkReport site) := fun site =>
    hclose.trans (State.linkReport_moves _ _)
  unfold State.takeDelivery
  split
  · exact hclose.trans (.air (.inl rfl))
  · simp only
    split
    · exact s.afterReport_moves _ ((hfound _).trans (.air (.inl rfl)))
    · split
      · exact s.afterReport_moves _ ((hfound _).trans (State.handOver_moves _ _))
      · exact .refl s

theorem State.delivery_moves (s : State) (rx : List Byte) (mine : Telegram → Bool) :
    s.Moves done (s.delivery rx mine State.handOver) := by
  unfold State.delivery
  split
  · exact s.takeDelivery_moves _ _
  · exact .refl s

theorem State.airByte_calm (s : State) (b : Byte) : s.Calm done (s.airByte b) := by
  unfold State.airByte
  split
  · exact .refl s
  · exact .receive _

/-- A delivery that is overdue closes no later than the command that finds it so. -/
theorem State.closeOverdue_moves (s : State) (t : Stamp) :
    s.closeOverdue t = s
      ∨ ∃ u : Stamp, u.toNat ≤ max s.now t.toNat ∧ (s.advanceTo u).Moves done (s.closeOverdue t) := by
  unfold State.closeOverdue
  split
  · rename_i d hd
    split
    · refine .inr ⟨BitVec.ofNat 48 d.closes, ?_, State.takeDelivery_moves _ _ _⟩
      have hr : d.closes ≤ (s.advanceTo t).now := by
        simpa [State.reached] using (Option.filter_eq_some_iff.mp hd).2
      rw [State.advanceTo_now] at hr
      exact (Nat.mod_le _ _).trans hr
    · exact .inl rfl
  · exact .inl rfl

theorem State.beforeBytes_moves (s : State) (t : Stamp) (rx : List Byte) :
    s.beforeBytes t rx = s
      ∨ ∃ u : Stamp, u.toNat ≤ max s.now t.toNat ∧ (s.advanceTo u).Moves done (s.beforeBytes t rx) := by
  unfold State.beforeBytes
  split
  · exact .inl rfl
  · exact s.closeOverdue_moves t

/-! ## Completions and BIDs -/

/-- A completion that is due is made, and no other. -/
theorem State.settleTx_moves {s : State}
    (hdone : ∀ tx, s.uls.sched = .onAir tx → s.reached tx.ends = true → done) : s.Moves done s.settleTx := by
  unfold State.settleTx
  split
  · rename_i tx htx
    split
    · rename_i hr
      exact s.completeTx_moves tx (hdone tx htx hr)
    · exact .refl s
  · exact .refl s

theorem State.bidRelease_moves {s : State}
    (hdone : ∀ tx, s.uls.sched = .onAir tx → s.reached tx.ends = true → done) : s.Moves done s.bidRelease := by
  unfold State.bidRelease
  split
  · exact (State.settleTx_moves hdone).trans
      ((Moves.radio (State.releaseBid_radioStep _ _)).trans (State.choose_moves _))
  · exact .refl s

end

/-! ## Every command -/

/-- The command completes a transmission that is due (R48, R50). -/
def completes (i : Instr) (s : State) : Prop :=
  ∃ t tx, (i = .transmissionComplete t ∨ i = .bidRelease t) ∧ s.uls.sched = .onAir tx
    ∧ (s.advanceTo t).reached tx.ends = true

/-- What was being sent has been sent: a transmission completes, or a frame has left on CTXD (R204). -/
def sends (i : Instr) (s : State) : Prop := completes i s ∨ ∃ t, i = .frameSent t

/-- The command is a request, or a byte that may complete one: the meter may change its state (R110). -/
def turns (i : Instr) : Prop := i.request ≠ none ∨ ∃ t c b, i = .cabPortByteReceived t c b

/-- The effect of a command with stamp `t` while main power is present: a delivery overdue closes; then the timer
comes to the stamp and the pins to their levels; then come the moves. -/
def State.Course (s : State) (done turn : Prop) (t : Stamp) (cd calen : Bool) (s' : State) : Prop :=
  ∃ m : State, (m = s ∨ ∃ u : Stamp, u.toNat ≤ max s.now t.toNat ∧ (s.advanceTo u).Moves done m)
    ∧ (((m.advanceTo t).setCd cd).setCalen calen).Runs done turn s'

/-- What every command with a stamp does while main power is present. -/
def courses (i : Instr) (t : Stamp) (s : State) : Prop :=
  ∃ s' cd, exec i s = .next s' ∧ ((∀ u, i ≠ .cdRise u ∧ i ≠ .cdFall u) → cd = s.cd)
    ∧ s.Course (sends i s) (turns i) t cd (i.calenLevel.getD s.calen) s'

theorem State.advanceTo_pins (s : State) (t : Stamp) :
    ((s.advanceTo t).setCd s.cd).setCalen s.calen = s.advanceTo t := by
  unfold State.advanceTo
  split <;> rfl

theorem State.advanceTo_setCd_self (s : State) (t : Stamp) : (s.advanceTo t).setCd s.cd = s.advanceTo t := by
  unfold State.advanceTo
  split <;> rfl

section

variable {i : Instr} {s : State} {t : Stamp}

theorem courses_of_event (hv : s.vdd = true) {f : State → State} (he : exec i s = .next (s.event t f))
    (hc : i.calenLevel = none) (hr : (s.advanceTo t).Runs (sends i s) (turns i) (f (s.advanceTo t))) :
    courses i t s := by
  refine ⟨_, s.cd, he, fun _ => rfl, s, .inl rfl, ?_⟩
  rw [hc, Option.getD_none, State.advanceTo_pins, State.event_of_vdd hv]
  exact hr

theorem courses_of_moves (hv : s.vdd = true) {f : State → State} (he : exec i s = .next (s.event t f))
    (hc : i.calenLevel = none) (hm : ∀ q : State, q.Moves (sends i s) (f q)) : courses i t s :=
  courses_of_event hv he hc (hm _).runs

theorem courses_of_request (hv : s.vdd = true) {kind : Byte} {act : State → Answer}
    (he : exec i s = .next (s.request t kind act)) (hc : i.calenLevel = none) (hr : i.request ≠ none)
    (hact : ∀ q : State, q.Acts (sends i s) (act q).state) : courses i t s :=
  courses_of_event hv he hc
    (.before (.move (State.toHunt_moves _)) (State.answer_runs _ ((hact _).runs (.inl hr))))

theorem courses_of_telegram (hv : s.vdd = true) {rx : List Byte} {mine : Telegram → Bool}
    (he : exec i s = .next (s.telegram t rx mine)) (hc : i.calenLevel = none) : courses i t s := by
  refine ⟨_, s.cd, he, fun _ => rfl, s.beforeBytes t rx, s.beforeBytes_moves t rx, ?_⟩
  have hpins : (s.beforeBytes t rx).vdd = true ∧ (s.beforeBytes t rx).cd = s.cd
      ∧ (s.beforeBytes t rx).calen = s.calen := by
    rcases s.beforeBytes_moves (done := True) t rx with h | ⟨u, -, h⟩
    · rw [h]
      exact ⟨hv, rfl, rfl⟩
    · obtain ⟨-, h2, -, h4, h5, -⟩ := h.frame
      exact ⟨h2.trans ((State.advanceTo_vdd s u).trans hv), h4.trans (State.advanceTo_cd s u),
        h5.trans (State.advanceTo_calen s u)⟩
  obtain ⟨h1, h2, h3⟩ := hpins
  rw [hc, Option.getD_none, ← h2, ← h3, State.advanceTo_pins, State.telegram, State.event_of_vdd h1]
  exact (State.delivery_moves _ _ _).runs

/-- A load command from the air brings the level of CALEN with its bytes (log entry 6). -/
theorem courses_of_airLoad (hv : s.vdd = true) {rx : List Byte} {mine : Telegram → Bool} {calen : Bool}
    (he : exec i s = .next ((s.beforeBytes t rx).event t fun s =>
      (s.setCalen calen).delivery rx mine State.handOver)) (hc : i.calenLevel = some calen) : courses i t s := by
  refine ⟨_, s.cd, he, fun _ => rfl, s.beforeBytes t rx, s.beforeBytes_moves t rx, ?_⟩
  have hpins : (s.beforeBytes t rx).vdd = true ∧ (s.beforeBytes t rx).cd = s.cd := by
    rcases s.beforeBytes_moves (done := True) t rx with h | ⟨u, -, h⟩
    · rw [h]
      exact ⟨hv, rfl⟩
    · obtain ⟨-, h2, -, h4, -, -⟩ := h.frame
      exact ⟨h2.trans ((State.advanceTo_vdd s u).trans hv), h4.trans (State.advanceTo_cd s u)⟩
  obtain ⟨h1, h2⟩ := hpins
  rw [hc, Option.getD_some, ← h2, State.advanceTo_setCd_self, State.event_of_vdd h1]
  exact (State.delivery_moves _ _ _).runs

theorem courses_of_cabLoad (hv : s.vdd = true) {kind : Byte} {act : State → Answer} {calen : Bool}
    (he : exec i s = .next (s.event t fun s => (s.setCalen calen).toHunt.answer kind act))
    (hc : i.calenLevel = some calen) (hr : i.request ≠ none)
    (hact : ∀ q : State, q.Moves (sends i s) (act q).state) : courses i t s := by
  refine ⟨_, s.cd, he, fun _ => rfl, s, .inl rfl, ?_⟩
  rw [hc, Option.getD_some, State.advanceTo_setCd_self, State.event_of_vdd hv]
  exact .before (.move (State.toHunt_moves _)) (State.answer_runs _ (State.Acts.runs (.inl (hact _)) (.inl hr)))

theorem courses_of_cd (hv : s.vdd = true) {f : State → State} {cd : Bool}
    (he : exec i s = .next (s.event t f)) (hc : i.calenLevel = none)
    (hi : ¬ ∀ u, i ≠ .cdRise u ∧ i ≠ .cdFall u) (hf : ∀ q : State, (q.setCd cd).RadioStep (f q)) :
    courses i t s := by
  refine ⟨_, cd, he, fun h => (hi h).elim, s, .inl rfl, ?_⟩
  have hcalen : ((s.advanceTo t).setCd cd).setCalen s.calen = (s.advanceTo t).setCd cd := by
    unfold State.advanceTo
    split <;> rfl
  rw [hc, Option.getD_none, hcalen, State.event_of_vdd hv]
  exact (State.Moves.radio (hf _)).runs

end

/-- Every command with a stamp runs its course while main power is present. -/
theorem courses_of_vdd (i : Instr) {s : State} (hv : s.vdd = true) {t : Stamp} (ht : i.stamp = some t) :
    courses i t s := by
  cases i <;> cases ht
  case deliveryDropped | siteBeacon | timeSet | offer | withdraw | award | assign | jobCancel | message
    | emergencyAck | standDown | tripRecall | totalsQuery | statusQueryIdentity | statusQueryVersions
    | statusQueryCounters | statusQuerySnapshot | bar | reinstate | restart =>
    exact courses_of_telegram hv rfl rfl
  case loadOpen calen port =>
    cases port with
    | air rx => exact courses_of_airLoad hv rfl rfl
    | cab arg => exact courses_of_cabLoad hv rfl rfl (by simp [Instr.request]) fun q => q.cabLoadOpen_moves arg
  case loadData calen port =>
    cases port with
    | air rx => exact courses_of_airLoad hv rfl rfl
    | cab arg => exact courses_of_cabLoad hv rfl rfl (by simp [Instr.request]) fun q => q.cabLoadData_moves arg
  case loadCommit calen port =>
    cases port with
    | air rx => exact courses_of_airLoad hv rfl rfl
    | cab check =>
      exact courses_of_cabLoad hv rfl rfl (by simp [Instr.request]) fun q => q.cabLoadCommit_moves check
  case settleExpiry => exact courses_of_moves hv rfl rfl State.settleExpiry_moves
  case dwellExpiry => exact courses_of_moves hv rfl rfl State.dwellExpiry_moves
  case silenceExpiry => exact courses_of_moves hv rfl rfl State.silenceExpiry_moves
  case cdFall => exact courses_of_cd hv rfl rfl (by simp) State.cdFall_radioStep
  case cdRise => exact courses_of_cd hv rfl rfl (by simp) State.cdRise_radioStep
  case clearTimerExpiry => exact courses_of_moves hv rfl rfl fun q => .radio q.clearExpiry_radioStep
  case backoffEnd => exact courses_of_moves hv rfl rfl fun q => .radio q.backoffEnd_radioStep
  case transmissionComplete =>
    refine courses_of_event hv rfl rfl (State.settleTx_moves fun tx htx hr => ?_).runs
    exact .inl ⟨_, tx, .inl rfl, by simpa using htx, hr⟩
  case bidRelease =>
    refine courses_of_event hv rfl rfl (State.bidRelease_moves fun tx htx hr => ?_).runs
    exact .inl ⟨_, tx, .inr rfl, by simpa using htx, hr⟩
  case bidDeadline => exact courses_of_moves hv rfl rfl fun q => .radio q.bidDeadline_radioStep
  case decisionDeadline number => exact courses_of_moves hv rfl rfl fun q => q.decisionDeadline_moves number.toNat
  case lapseTime number => exact courses_of_moves hv rfl rfl fun q => q.lapseTime_moves number.toNat
  case position row col noFix =>
    exact courses_of_request hv rfl rfl (by simp [Instr.request]) fun q => .inl (q.position_moves row col noFix)
  case accept number =>
    exact courses_of_request hv rfl rfl (by simp [Instr.request]) fun q => .inl (q.accept_moves number.toNat)
  case decline number =>
    exact courses_of_request hv rfl rfl (by simp [Instr.request]) fun q => .inl (q.decline_moves number.toNat)
  case arrived job =>
    exact courses_of_request hv rfl rfl (by simp [Instr.request]) fun q => .inl (q.arrived_moves job.toNat)
  case noShow job =>
    exact courses_of_request hv rfl rfl (by simp [Instr.request]) fun q => .inl (q.noShow_moves job.toNat)
  case shiftOpen driver =>
    exact courses_of_request hv rfl rfl (by simp [Instr.request]) fun q => q.openShift_acts driver.toNat
  case shiftClose => exact courses_of_request hv rfl rfl (by simp [Instr.request]) fun q => q.closeShift_acts
  case hire form => exact courses_of_request hv rfl rfl (by simp [Instr.request]) fun q => q.hire_acts form
  case stop => exact courses_of_request hv rfl rfl (by simp [Instr.request]) fun q => q.stop_acts
  case resume => exact courses_of_request hv rfl rfl (by simp [Instr.request]) fun q => q.resume_acts
  case pay form => exact courses_of_request hv rfl rfl (by simp [Instr.request]) fun q => q.pay_acts form
  case extra index =>
    exact courses_of_request hv rfl rfl (by simp [Instr.request]) fun q => .inl (q.extra_moves index.toNat)
  case readOfferTable | readJobBook | readMeter | readMessageList | readLink | readCounters =>
    exact courses_of_request hv rfl rfl (by simp [Instr.request]) fun q => State.acts_of_eq rfl
  case readOfferText number first =>
    exact courses_of_request hv rfl rfl (by simp [Instr.request]) fun q =>
      State.acts_of_eq (q.readOfferText_state number.toNat first.toNat)
  case readJobText job first =>
    exact courses_of_request hv rfl rfl (by simp [Instr.request]) fun q =>
      State.acts_of_eq (q.readJobText_state job.toNat first.toNat)
  case readTrip sequence =>
    exact courses_of_request hv rfl rfl (by simp [Instr.request]) fun q =>
      State.acts_of_eq (q.readTrip_state sequence.toNat)
  case readShift which =>
    exact courses_of_request hv rfl rfl (by simp [Instr.request]) fun q =>
      State.acts_of_eq (q.readShift_state which.toNat)
  case readMessageFields number =>
    exact courses_of_request hv rfl rfl (by simp [Instr.request]) fun q =>
      State.acts_of_eq (q.readMessageFields_state number.toNat)
  case readMessageText number first =>
    exact courses_of_request hv rfl rfl (by simp [Instr.request]) fun q =>
      State.acts_of_eq (q.readMessageText_state number.toNat first.toNat)
  case readMessagePhrase number phrase =>
    exact courses_of_request hv rfl rfl (by simp [Instr.request]) fun q =>
      State.acts_of_eq (q.readMessagePhrase_state number.toNat phrase.toNat)
  case readEmergency =>
    exact courses_of_request hv rfl rfl (by simp [Instr.request]) fun q => State.acts_of_eq q.readEmergency_state
  case markRead number =>
    exact courses_of_request hv rfl rfl (by simp [Instr.request]) fun q => .inl (q.markRead_moves number.toNat)
  case reply number phrase =>
    exact courses_of_request hv rfl rfl (by simp [Instr.request]) fun q =>
      .inl (q.reply_moves number.toNat phrase.toNat)
  case send phrase =>
    exact courses_of_request hv rfl rfl (by simp [Instr.request]) fun q => .inl (q.send_moves phrase.toNat)
  case emergencyRequest =>
    exact courses_of_request hv rfl rfl (by simp [Instr.request]) fun q => .inl q.press_moves
  case cancel => exact courses_of_request hv rfl rfl (by simp [Instr.request]) fun q => .inl q.cancel_moves
  case noticeMask enables =>
    exact courses_of_request hv rfl rfl (by simp [Instr.request]) fun q => .inl (q.noticeMask_moves enables)
  case unknownRequest =>
    exact courses_of_event hv rfl rfl
      (State.Calm.trans (.move (State.toHunt_moves _)) (State.refuseFrame_calm _ _ _)).runs
  case frameRefused => exact courses_of_event hv rfl rfl (State.refuseAt_calm _ _).runs
  case assemblyTimeout => exact courses_of_event hv rfl rfl (State.assemblyTimeout_calm _).runs
  case frameSent =>
    refine courses_of_moves hv rfl rfl fun q => ?_
    obtain ⟨c, hc, h⟩ := q.frameSent_eq
    rw [h]
    exact .sent (.inr ⟨_, rfl⟩) hc
  case wheelPulse => exact courses_of_moves hv rfl rfl fun q => q.pulse_moves
  case secondsTick =>
    have he : exec (.secondsTick t) s = .next (s.event t State.secondsTick) := by
      simp only [exec, execSecondsTick, hv, if_true]
    exact courses_of_moves hv he rfl State.secondsTick_moves
  case messageExpiry number => exact courses_of_moves hv rfl rfl fun q => q.expireMessage_moves number.toNat
  case emergPress => exact courses_of_moves hv rfl rfl State.press_moves
  case covertPress => exact courses_of_moves hv rfl rfl State.pressCovert_moves
  case graceExpiry => exact courses_of_moves hv rfl rfl State.graceExpiry_moves
  case beaconDue => exact courses_of_moves hv rfl rfl fun q => .radio q.beaconDue_radioStep
  case arxdByteReceived byte =>
    refine ⟨_, s.cd, rfl, fun _ => rfl, s.closeOverdue t, s.closeOverdue_moves t, ?_⟩
    have hpins : (s.closeOverdue t).vdd = true ∧ (s.closeOverdue t).cd = s.cd
        ∧ (s.closeOverdue t).calen = s.calen := by
      rcases s.closeOverdue_moves (done := True) t with h | ⟨u, -, h⟩
      · rw [h]
        exact ⟨hv, rfl, rfl⟩
      · obtain ⟨-, h2, -, h4, h5, -⟩ := h.frame
        exact ⟨h2.trans ((State.advanceTo_vdd s u).trans hv), h4.trans (State.advanceTo_cd s u),
          h5.trans (State.advanceTo_calen s u)⟩
    obtain ⟨h1, h2, h3⟩ := hpins
    show State.Runs _ _ (((State.advanceTo _ t).setCd s.cd).setCalen s.calen) _
    rw [← h2, ← h3, State.advanceTo_pins, State.event_of_vdd h1]
    exact (State.airByte_calm _ _).runs
  case cabPortByteReceived calen byte =>
    refine ⟨_, s.cd, rfl, fun _ => rfl, s, .inl rfl, ?_⟩
    show State.Runs _ _ (((s.advanceTo t).setCd s.cd).setCalen calen) _
    rw [State.advanceTo_setCd_self, State.event_of_vdd hv]
    exact State.cabByte_runs _ _ (.inr ⟨_, _, _, rfl⟩)

/-- While main power is absent no command with a stamp acts but the tick of the wall clock (log entry 16). -/
theorem exec_without_vdd (i : Instr) {s : State} (hv : s.vdd = false) (ht : i.stamp ≠ none) :
    exec i s = .next s ∨ ((∃ t, i = .secondsTick t) ∧ exec i s = .next s.tickClock) := by
  have hover : ∀ t, s.closeOverdue t = s := fun t => by
    unfold State.closeOverdue
    split
    · simp [hv]
    · rfl
  have hbefore : ∀ t rx, s.beforeBytes t rx = s := fun t rx => by
    unfold State.beforeBytes
    split
    · rfl
    · exact hover t
  have hevent : ∀ t f, s.event t f = s := fun t f => State.event_without_vdd hv t f
  have htelegram : ∀ t rx mine, s.telegram t rx mine = s := fun t rx mine => by
    rw [State.telegram, hbefore, hevent]
  cases i
  case powerOn | vbakFall | lossOfMainPower => exact (ht rfl).elim
  case secondsTick t => exact .inr ⟨⟨t, rfl⟩, by simp [exec, execSecondsTick, hv]⟩
  case deliveryDropped | siteBeacon | timeSet | offer | withdraw | award | assign | jobCancel | message
    | emergencyAck | standDown | tripRecall | totalsQuery | statusQueryIdentity | statusQueryVersions
    | statusQueryCounters | statusQuerySnapshot | bar | reinstate | restart =>
    exact .inl (congrArg _ (htelegram _ _ _))
  case loadOpen t calen port =>
    cases port with
    | air rx => exact .inl (congrArg _ ((congrArg (State.event · t _) (hbefore t rx)).trans (hevent _ _)))
    | cab arg => exact .inl (congrArg _ (hevent _ _))
  case loadData t calen port =>
    cases port with
    | air rx => exact .inl (congrArg _ ((congrArg (State.event · t _) (hbefore t rx)).trans (hevent _ _)))
    | cab arg => exact .inl (congrArg _ (hevent _ _))
  case loadCommit t calen port =>
    cases port with
    | air rx => exact .inl (congrArg _ ((congrArg (State.event · t _) (hbefore t rx)).trans (hevent _ _)))
    | cab check => exact .inl (congrArg _ (hevent _ _))
  case arxdByteReceived t byte =>
    exact .inl (congrArg _ ((congrArg (State.event · t _) (hover t)).trans (hevent _ _)))
  all_goals exact .inl (congrArg _ (hevent _ _))

end Sys2Proof.Machine
end

section
/-!
PROOFS. What every step keeps: a property that no move, change of the meter state, response or change of supply takes
away is kept by every command.
-/

namespace Sys2Proof.Machine

/-! ## Power-on (R199) -/

/-- What the backup monitor leaves: the retained store as it was, or its lost-store values. -/
def State.storeChecked (s : State) : State :=
  let q := (s.blank.setVdd true).setVbakLatch false
  if s.vbakLatch then ((q.setMeter Meter.reset).setTrips Trips.reset).setDcu Dcu.reset
  else q.setDcu { q.dcu with retainedValid := true }

theorem State.checkStore_eq (s : State) :
    ∃ c, CabPort.reset.Noticed c ∧ (s.blank.setVdd true).checkStore = s.storeChecked.setCab c := by
  unfold State.checkStore State.storeChecked
  simp only
  by_cases h : s.vbakLatch = true
  · have hb : (s.blank.setVdd true).vbakLatch = true := h
    rw [if_pos hb, if_pos h]
    exact State.raise_eq (((((s.blank.setVdd true).setVbakLatch false).setMeter Meter.reset).setTrips
      Trips.reset).setDcu Dcu.reset) .clock 1 []
  · have hb : ¬ (s.blank.setVdd true).vbakLatch = true := h
    rw [if_neg hb, if_neg h]
    exact ⟨CabPort.reset, .of_eq rfl rfl fun _ => rfl, rfl⟩

theorem State.closeInterrupted_setCab (s : State) (c : CabPort) :
    (s.setCab c).closeInterrupted = s.closeInterrupted.setCab c := by
  unfold State.closeInterrupted
  simp only [State.setCab_meter]
  split <;> rfl

theorem State.startLink_eq (s : State) : ∃ l c, s.cab.Noticed c ∧ s.startLink = (s.setLink l).setCab c := by
  have hhunt : ∃ l, (if s.dcu.channels.isSome = true then s.enterHunting 0 else s) = s.setLink l := by
    split
    · unfold State.enterHunting
      simp only
      split
      · exact ⟨_, rfl⟩
      · exact ⟨_, rfl⟩
    · exact ⟨s.link, rfl⟩
  obtain ⟨l, hl⟩ := hhunt
  unfold State.startLink
  rw [hl]
  obtain ⟨c, hc, h⟩ := (s.setLink l).raise_eq .link LinkCause.powerOn.code
    ((s.setLink l).linkSummary (s.setLink l).currentChannel)
  exact ⟨l, c, hc, h⟩

/-- The state after a power-on: the store as it was found with the interrupted trip closed, and every other part as
after reset but for the generator, the window, the link and the notices raised. -/
theorem State.powerOn_eq (s : State) :
    ∃ (rng window : Nat) (l : Link) (c : CabPort), CabPort.reset.Noticed c
      ∧ s.powerOn =
        ((s.storeChecked.closeInterrupted.setUls { Uls.reset with rng := rng, window := window }).setLink l).setCab
          c := by
  obtain ⟨c, hc, hcheck⟩ := s.checkStore_eq
  obtain ⟨l, c', hc', hlink⟩ := (s.storeChecked.closeInterrupted.setCab c).startUls.startLink_eq
  have huls : s.storeChecked.closeInterrupted.uls = Uls.reset := by
    unfold State.closeInterrupted State.storeChecked
    split <;> (simp only; split <;> rfl)
  refine ⟨(s.storeChecked.closeInterrupted.setCab c).address.cab,
    (s.storeChecked.closeInterrupted.setCab c).op.minWindow, l, c',
    hc.trans hc', ?_⟩
  rw [← huls, State.powerOn, hcheck, State.closeInterrupted_setCab, hlink]
  rfl

/-- A power-on ends the trip in progress (R135), and leaves every volatile part as after reset. -/
theorem State.powerOn_volatile (s : State) :
    s.powerOn.offers = Offers.reset ∧ s.powerOn.jobs = JobBook.reset ∧ s.powerOn.msgs = Messages.reset
      ∧ s.powerOn.emu = Emergency.reset ∧ s.powerOn.uls.queue = [] ∧ s.powerOn.uls.sched = .idle
      ∧ s.powerOn.dcu.staging = none ∧ CabPort.reset.Noticed s.powerOn.cab := by
  obtain ⟨rng, window, l, c, hc, h⟩ := s.powerOn_eq
  rw [h]
  refine ⟨?_, ?_, ?_, ?_, rfl, rfl, ?_, hc⟩
  all_goals
    simp only [State.setCab_offers, State.setLink_offers, State.setUls_offers, State.setCab_jobs,
      State.setLink_jobs, State.setUls_jobs, State.setCab_msgs, State.setLink_msgs, State.setUls_msgs,
      State.setCab_emu, State.setLink_emu, State.setUls_emu, State.setCab_dcu, State.setLink_dcu, State.setUls_dcu]
    unfold State.closeInterrupted State.storeChecked
    split <;> (simp only; split <;> rfl)

/-- The retained items after a power-on. -/
theorem State.powerOn_retained (s : State) :
    s.powerOn.meter = s.storeChecked.closeInterrupted.meter
      ∧ s.powerOn.trips = s.storeChecked.closeInterrupted.trips
      ∧ s.powerOn.dcu = s.storeChecked.closeInterrupted.dcu ∧ s.powerOn.vdd = true := by
  obtain ⟨rng, window, l, c, hc, h⟩ := s.powerOn_eq
  rw [h]
  refine ⟨rfl, rfl, rfl, ?_⟩
  simp only [State.setCab_vdd, State.setLink_vdd, State.setUls_vdd]
  unfold State.closeInterrupted State.storeChecked
  split <;> (simp only; split <;> rfl)

/-! ## Every command keeps what its moves keep -/

/-- A property that reads neither the timer, the latch, the pins, the receive buffer nor the queue of commands. -/
def State.Unpinned (P : State → Prop) : Prop :=
  ∀ (s : State) ms latch cd calen pending air, P s →
    P { s with ms := ms, vbakLatch := latch, cd := cd, calen := calen, pending := pending, air := air }

theorem State.Calm.keeps {P : State → Prop} (hP : State.Unpinned P) {done : Prop}
    (hmove : ∀ s s' : State, s.Moves done s' → P s → P s')
    (hrespond : ∀ (s : State) kind code fields, s.cab.responses < Config.responsesMax → P s →
      P (s.respond kind code fields))
    {s s' : State} (h : s.Calm done s') (hs : P s) : P s' := by
  induction h with
  | refl => exact hs
  | trans _ _ ih ih' => exact ih' (ih hs)
  | move h => exact hmove _ _ h hs
  | respond kind code fields h => exact hrespond _ kind code fields h hs
  | @receive s a => exact hP s s.ms s.vbakLatch s.cd s.calen s.pending a hs

theorem State.Runs.keeps {P : State → Prop} (hP : State.Unpinned P) {done turn : Prop}
    (hmove : ∀ s s' : State, s.Moves done s' → P s → P s') (hturn : ∀ s s' : State, s.Turn s' → P s → P s')
    (hrespond : ∀ (s : State) kind code fields, s.cab.responses < Config.responsesMax → P s →
      P (s.respond kind code fields))
    {s s' : State} (h : s.Runs done turn s') (hs : P s) : P s' := by
  rcases h with h | ⟨-, q, q', hq, ht, hq'⟩
  · exact h.keeps hP hmove hrespond hs
  · exact hq'.keeps hP hmove hrespond (hturn _ _ ht (hq.keeps hP hmove hrespond hs))

theorem State.Unpinned.advanceTo {P : State → Prop} (h : State.Unpinned P) {s : State} (t : Stamp) (hs : P s) :
    P (s.advanceTo t) := by
  unfold State.advanceTo
  split
  · exact h s t s.vbakLatch s.cd s.calen s.pending s.air hs
  · exact hs

/-- What a command but power-on and the loss of main power brings about: what its run makes of a property that its
moves keep. -/
theorem exec_reaches {P Q : State → Prop} (hP : State.Unpinned P) {i : Instr} {s s' : State}
    (hmove : ∀ q q' : State, q.Moves (sends i s) q' → P q → P q')
    (hruns : ∀ q q' : State, q.Runs (sends i s) (turns i) q' → P q → Q q')
    (h : exec i s = .next s') (hon : i ≠ .powerOn) (hloss : i ≠ .lossOfMainPower) (hs : P s) : Q s' := by
  cases ht : i.stamp with
  | none =>
    have hi : i = .vbakFall := by
      cases i
      case powerOn => exact (hon rfl).elim
      case vbakFall => rfl
      case lossOfMainPower => exact (hloss rfl).elim
      all_goals cases ht
    subst hi
    have : s' = s.vbakFall := by
      cases h
      rfl
    subst this
    refine hruns _ _ (.refl _) ?_
    unfold State.vbakFall
    split
    · exact hs
    · exact hP s s.ms true s.cd s.calen s.pending s.air hs
  | some t =>
    by_cases hv : s.vdd = true
    · obtain ⟨q, cd, hq, -, m, hm, hrun⟩ := courses_of_vdd i hv ht
      have : q = s' := by
        rw [hq] at h
        cases h
        rfl
      subst this
      have hmid : P m := by
        rcases hm with rfl | ⟨u, -, hm⟩
        · exact hs
        · exact hmove _ _ hm (hP.advanceTo u hs)
      exact hruns _ _ hrun (hP (m.advanceTo t) _ _ cd _ _ _ (hP.advanceTo t hmid))
    · rcases exec_without_vdd i (Bool.eq_false_of_not_eq_true hv) (by simp [ht]) with hq | ⟨-, hq⟩
      · rw [hq] at h
        cases h
        exact hruns _ _ (.refl _) hs
      · rw [hq] at h
        cases h
        exact hruns _ _ s.tickClock_moves.runs hs

/-- A command but power-on and the loss of main power keeps what its moves keep. -/
theorem exec_keeps_of_runs {P : State → Prop} (hP : State.Unpinned P) {i : Instr} {s s' : State}
    (hruns : ∀ q q' : State, q.Runs (sends i s) (turns i) q' → P q → P q')
    (h : exec i s = .next s') (hon : i ≠ .powerOn) (hloss : i ≠ .lossOfMainPower) (hs : P s) : P s' :=
  exec_reaches hP (fun _ _ h => hruns _ _ h.runs) hruns h hon hloss hs

/-- A property that every move, every change of the meter state, every response and every change of supply keeps, is
kept by every step. -/
theorem step_keeps {P : State → Prop} (hP : State.Unpinned P)
    (hmove : ∀ (done : Prop) (s s' : State), s.Moves done s' → P s → P s')
    (hturn : ∀ s s' : State, s.Turn s' → P s → P s')
    (hrespond : ∀ (s : State) kind code fields, s.cab.responses < Config.responsesMax → P s →
      P (s.respond kind code fields))
    (hon : ∀ s : State, P s → P s.powerOn) (hloss : ∀ s : State, P s → P (s.blank.setVdd false))
    {s s' : State} (h : step s = .next s') (hs : P s) : P s' := by
  have hexec : ∀ (i : Instr) (q q' : State), exec i q = .next q' → P q → P q' := by
    intro i q q' h hq
    by_cases hi : i = .powerOn
    · subst hi
      cases h
      exact hon q hq
    · by_cases hl : i = .lossOfMainPower
      · subst hl
        cases h
        unfold State.losePower
        split
        · exact hloss q hq
        · exact hq
      · exact exec_keeps_of_runs hP
          (fun q q' h => h.keeps hP (hmove _) hturn hrespond) h hi hl hq
  unfold step at h
  split at h
  · cases h
    exact hs
  · exact hexec _ _ _ h (hP s s.ms s.vbakLatch s.cd s.calen _ s.air hs)

/-! ## The access and the link (R52) -/

theorem State.Moves.accessLocked {done : Prop} {s s' : State} (h : s.Moves done s') (hs : s.AccessLocked) :
    s'.AccessLocked := by
  induction h with
  | trans _ _ ih ih' => exact ih' (ih hs)
  | radio h =>
    intro ha
    rw [h.work.linkMode]
    exact (h.access ha).elim hs id
  | finish => exact fun ha => nomatch ha
  | link hl =>
    intro ha
    rcases hl with hl | hl | hl | hl
    · exact hl.trans (hs ha)
    · exact hl
    · exact (hl (hs ha)).elim
    · exact nomatch hl.symm.trans ha
  | _ => exact hs

theorem State.Turn.accessLocked {s s' : State} (h : s.Turn s') (hs : s.AccessLocked) : s'.AccessLocked := by
  cases h <;> exact hs

/-! ## The transmission in progress (R33) -/

theorem State.Moves.onAir {s s' : State} {tx : Transmission} (h : s.Moves False s')
    (hs : s.uls.sched = .onAir tx) : s'.uls.sched = .onAir tx := by
  induction h with
  | trans _ _ ih ih' => exact ih' (ih hs)
  | radio h => exact h.onAir tx hs
  | finish _ _ hdone => exact hdone.elim
  | _ => exact hs

theorem State.Moves.mono {done done' : Prop} (hd : done → done') {s s' : State} (h : s.Moves done s') :
    s.Moves done' s' := by
  induction h with
  | refl s => exact .refl s
  | trans _ _ ih ih' => exact .trans ih ih'
  | cab h => exact .cab h
  | sent h hc => exact .sent (hd h) hc
  | air h => exact .air h
  | zone s z => exact .zone s z
  | radio h => exact .radio h
  | finish s w h => exact .finish s w (hd h)
  | link h => exact .link h
  | offers h => exact .offers h
  | addOffer h1 h2 h3 h4 h5 h6 h7 => exact .addOffer h1 h2 h3 h4 h5 h6 h7
  | joinActive h1 h2 h3 => exact .joinActive h1 h2 h3
  | joinQueued h1 h2 h3 h4 => exact .joinQueued h1 h2 h3 h4
  | promote h1 h2 => exact .promote h1 h2
  | arrive a h1 h2 => exact .arrive a h1 h2
  | leave h1 h2 h3 h4 => exact .leave h1 h2 h3 h4
  | metres h => exact .metres h
  | trip h1 h2 h3 h4 => exact .trip h1 h2 h3 h4
  | pend h => exact .pend h
  | calibrate h => exact .calibrate h
  | trips h1 h2 h3 => exact .trips h1 h2 h3
  | msgs h1 h2 => exact .msgs h1 h2
  | addMessage h1 h2 h3 h4 h5 h6 h7 => exact .addMessage h1 h2 h3 h4 h5 h6 h7
  | emu h1 h2 h3 => exact .emu h1 h2 h3
  | dcu h1 h2 h3 => exact .dcu h1 h2 h3

theorem State.Turn.sched {s s' : State} (h : s.Turn s') : s'.uls = s.uls := by
  cases h <;> rfl

/-- A frame that leaves on CTXD touches nothing but the cab port and the timer. -/
theorem exec_frameSent_uls {s s' : State} {t : Stamp} (h : exec (.frameSent t) s = .next s') : s'.uls = s.uls := by
  obtain ⟨c, -, hc⟩ := (s.advanceTo t).frameSent_eq
  have he : exec (.frameSent t) s = .next (s.event t State.frameSent) := rfl
  rw [he] at h
  obtain rfl : s.event t State.frameSent = s' := by simpa using h
  rw [State.event]
  split
  · rw [hc]
    exact s.advanceTo_uls t
  · rfl

end Sys2Proof.Machine

section

open Sys2Proof Sys2Proof.Machine

/-- Settles O19: an access begins only while the link is LOCKED, and the link leaves LOCKED only after it. -/
theorem stepKeepsAccessLocked : Obligations.StepKeepsAccessLocked := by
  intro s s' hs h
  refine step_keeps (P := State.AccessLocked) (fun _ _ _ _ _ _ _ h => h) (fun _ _ _ h => h.accessLocked)
    (fun _ _ h => h.accessLocked) (fun _ _ _ _ _ h => h) (fun s _ => ?_) (fun s _ => ?_) h hs
  · intro ha
    rw [s.powerOn_volatile.2.2.2.2.2.1] at ha
    cases ha
  · exact fun ha => nomatch ha

/-- Settles O18: only the completion that is due finishes a transmission, and a command made before its end makes
none. -/
theorem transmissionNotCutShort : Obligations.TransmissionNotCutShort := by
  intro i s s' tx htx h hon hloss hearly
  by_cases hleft : ∃ t, i = .frameSent t
  · obtain ⟨t, rfl⟩ := hleft
    exact (congrArg Uls.sched (exec_frameSent_uls h)).trans htx
  have hnot : ¬ sends i s := by
    rintro (⟨t, tx', hi, htx', hr⟩ | hleft')
    swap
    · exact hleft hleft'
    have : tx' = tx := by
      rw [htx] at htx'
      cases htx'
      rfl
    subst this
    have hlt := hearly t hi
    simp only [State.reached, decide_eq_true_eq] at hr
    omega
  refine exec_keeps_of_runs (P := fun q => q.uls.sched = .onAir tx) (fun _ _ _ _ _ _ _ h => h)
    (fun q q' hr hq => ?_) h hon hloss htx
  exact hr.keeps (P := fun q => q.uls.sched = .onAir tx) (fun _ _ _ _ _ _ _ h => h)
    (fun _ _ h => (h.mono hnot).onAir) (fun _ _ ht hq => (congrArg Uls.sched ht.sched).trans hq) (fun _ _ _ _ _ h => h) hq

end
end

section
/-!
PROOFS. Collections and their capacities (O56), and the rules of a call (O57).
-/

namespace Sys2Proof.Machine

/-- What an operation of the scheduler may touch is all that a property has to survive. -/
theorem State.radioWork.keeps {s s' : State} (h : s.radioWork s') {P : State → Prop}
    (hP : ∀ uls rx silence, P { s with
      uls := uls, air := { s.air with rx := rx }, link := { s.link with silence := silence } }) : P s' := by
  rw [State.radioWork] at h
  rw [h]
  exact hP _ _ _

/-! ## Capacities -/

theorem State.Moves.bounded {done : Prop} {s s' : State} (h : s.Moves done s') (hs : s.Bounded) : s'.Bounded := by
  induction h with
  | trans _ _ ih ih' => exact ih' (ih hs)
  | cab hc =>
    obtain ⟨hq, ho, hj, hm, hr, hn⟩ := hs
    exact ⟨hq, ho, hj, hm, hc.responses.trans hr, hc.notices hn⟩
  | sent _ hc =>
    obtain ⟨hq, ho, hj, hm, hr, hn⟩ := hs
    exact ⟨hq, ho, hj, hm, hc.responses.trans hr, hc.notices hn⟩
  | radio h =>
    refine ⟨h.room hs.1, ?_⟩
    exact h.work.keeps (P := fun q => q.offers.table.length ≤ Config.offersMax
      ∧ q.jobs.queued.length ≤ Config.queuedMax ∧ q.msgs.store.length ≤ Config.storeMax
      ∧ q.cab.responses ≤ Config.responsesMax ∧ q.cab.notices ≤ Config.noticesMax) fun _ _ _ => hs.2
  | offers h =>
    obtain ⟨hq, ho, hrest⟩ := hs
    exact ⟨hq, (by simpa using h.length_le : _ ≤ _).trans ho, hrest⟩
  | addOffer ht _ hroom =>
    obtain ⟨hq, ho, hrest⟩ := hs
    refine ⟨hq, ?_, hrest⟩
    rw [State.setOffers_offers, ht, List.length_append]
    exact hroom ho
  | joinQueued hroom =>
    obtain ⟨hq, ho, hj, hrest⟩ := hs
    refine ⟨hq, ho, ?_, hrest⟩
    rw [State.setJobs_jobs, List.length_append]
    exact hroom
  | promote _ hqueued =>
    obtain ⟨hq, ho, hj, hrest⟩ := hs
    refine ⟨hq, ho, ?_, hrest⟩
    rw [hqueued, List.length_cons] at hj
    exact Nat.le_of_succ_le hj
  | leave _ hqueued hsub _ =>
    obtain ⟨hq, ho, hj, hm, hrest⟩ := hs
    refine ⟨hq, ho, ?_, hsub.length_le.trans hm, hrest⟩
    rw [State.setMsgs_jobs, State.setJobs_jobs]
    rcases hqueued with h | h
    · rw [h]
      exact hj
    · rw [h]
      exact (List.length_filter_le _ _).trans hj
  | msgs hsub _ =>
    obtain ⟨hq, ho, hj, hm, hrest⟩ := hs
    exact ⟨hq, ho, hj, (by simpa using hsub.length_le : _ ≤ _).trans hm, hrest⟩
  | addMessage ht _ hroom =>
    obtain ⟨hq, ho, hj, hm, hrest⟩ := hs
    refine ⟨hq, ho, hj, ?_, hrest⟩
    rw [State.setMsgs_msgs, ht, List.length_append]
    exact hroom hm
  | _ => exact hs

theorem State.Turn.bounded {s s' : State} (h : s.Turn s') (hs : s.Bounded) : s'.Bounded := by
  obtain ⟨hq, ho, hj, hm, hr, hn⟩ := hs
  cases h with
  | hire _ _ _ _ _ hjobs =>
    refine ⟨hq, ho, ?_, hm, hr, hn⟩
    rcases hjobs with ⟨-, rfl⟩ | ⟨j, -, -, -, rfl⟩
    · exact hj
    · exact hj
  | run => exact ⟨hq, ho, hj, hm, hr, hn⟩
  | pay _ _ _ _ hleave =>
    rcases hleave with ⟨-, rfl, rfl⟩ | ⟨j, -, rfl, hsub, -⟩
    · exact ⟨hq, ho, hj, hm, hr, hn⟩
    · exact ⟨hq, ho, hj, hsub.length_le.trans hm, hr, hn⟩
  | openShift => exact ⟨hq, ho, hj, hm, hr, hn⟩
  | closeShift => exact ⟨hq, Nat.zero_le _, hj, hm, hr, hn⟩

theorem State.respond_bounded {s : State} (kind : Byte) (code : RespCode) (fields : List (List Byte))
    (hroom : s.cab.responses < Config.responsesMax) (hs : s.Bounded) : (s.respond kind code fields).Bounded := by
  obtain ⟨hq, ho, hj, hm, hr, hn⟩ := hs
  refine ⟨hq, ho, hj, hm, ?_, ?_⟩
  · exact (CabPort.join_responses _ _).trans hroom
  · exact (CabPort.join_notices _ _).trans hn

/-! ## Distinct numbers -/

theorem nodup_append_singleton {l : List Nat} {n : Nat} (h : l.Nodup) (hn : n ∉ l) : (l ++ [n]).Nodup :=
  List.nodup_append.mpr ⟨h, List.nodup_singleton n, fun a ha b hb => by
    rw [List.mem_singleton.mp hb]
    exact fun hab => hn (hab ▸ ha)⟩

theorem JobBook.holds_iff {b : JobBook} {number : Nat} :
    b.holds number = true ↔ number ∈ b.jobs.map (fun j => j.number) := by
  simp [JobBook.holds]

theorem JobBook.not_holds {b : JobBook} {number : Nat} (h : b.holds number = false) :
    number ∉ b.jobs.map (fun j => j.number) := fun hm => by
  rw [JobBook.holds_iff.mpr hm] at h
  cases h

/-- The numbers of a book from which jobs leave. -/
theorem JobBook.numbers_sublist {b b' : JobBook} {keep : Job → Bool}
    (ha : b'.active = b.active ∨ b'.active = none) (hq : b'.queued = b.queued ∨ b'.queued = b.queued.filter keep) :
    b'.jobs.Sublist b.jobs := by
  unfold JobBook.jobs
  refine List.Sublist.append ?_ ?_
  · rcases ha with h | h
    · rw [h]
    · rw [h]
      exact List.nil_sublist _
  · rcases hq with h | h
    · rw [h]
    · rw [h]
      exact List.filter_sublist

theorem State.Moves.distinct {done : Prop} {s s' : State} (h : s.Moves done s') (hs : s.Distinct) :
    s'.Distinct := by
  induction h with
  | trans _ _ ih ih' => exact ih' (ih hs)
  | radio h => exact h.work.keeps (P := State.Distinct) fun _ _ _ => hs
  | offers h =>
    obtain ⟨ho, hrest⟩ := hs
    exact ⟨h.nodup ho, hrest⟩
  | addOffer ht hsub _ hn =>
    obtain ⟨ho, hrest⟩ := hs
    refine ⟨?_, hrest⟩
    rw [State.setOffers_offers, ht, List.map_append]
    exact nodup_append_singleton ((hsub.map _).nodup ho) fun hm => hn ((hsub.map _).subset hm)
  | joinActive hnone hfree =>
    obtain ⟨ho, hj, hm⟩ := hs
    refine ⟨ho, ?_, hm⟩
    have hn := JobBook.not_holds hfree
    simp only [JobBook.jobs, hnone, Option.toList_none, List.nil_append] at hj hn
    exact List.nodup_cons.mpr ⟨hn, hj⟩
  | joinQueued _ hfree =>
    obtain ⟨ho, hj, hm⟩ := hs
    refine ⟨ho, ?_, hm⟩
    have hn := JobBook.not_holds hfree
    simp only [State.setJobs_jobs, JobBook.jobs, List.map_append, ← List.append_assoc] at hj hn ⊢
    exact nodup_append_singleton hj hn
  | promote hnone hqueued =>
    obtain ⟨ho, hj, hm⟩ := hs
    refine ⟨ho, ?_, hm⟩
    simp only [JobBook.jobs, hnone, hqueued, Option.toList_none, List.nil_append] at hj
    exact hj
  | arrive arrived hactive _ =>
    obtain ⟨ho, hj, hm⟩ := hs
    refine ⟨ho, ?_, hm⟩
    simp only [JobBook.jobs, hactive, Option.toList_some] at hj
    exact hj
  | leave ha hq hsub _ =>
    obtain ⟨ho, hj, hm⟩ := hs
    refine ⟨ho, ?_, (hsub.map _).nodup hm⟩
    exact ((JobBook.numbers_sublist (ha.imp_right fun h => h.1) hq).map _).nodup hj
  | msgs hsub _ =>
    obtain ⟨ho, hj, hm⟩ := hs
    exact ⟨ho, hj, hsub.nodup hm⟩
  | addMessage ht hsub _ hn =>
    obtain ⟨ho, hj, hm⟩ := hs
    refine ⟨ho, hj, ?_⟩
    rw [State.setMsgs_msgs, ht, List.map_append]
    exact nodup_append_singleton ((hsub.map _).nodup hm) fun hx => hn ((hsub.map _).subset hx)
  | _ => exact hs

theorem State.Turn.distinct {s s' : State} (h : s.Turn s') (hs : s.Distinct) : s'.Distinct := by
  obtain ⟨ho, hj, hm⟩ := hs
  cases h with
  | hire _ _ _ _ _ hjobs =>
    refine ⟨ho, ?_, hm⟩
    rcases hjobs with ⟨-, rfl⟩ | ⟨j, hactive, -, -, rfl⟩
    · exact hj
    · simp only [JobBook.jobs, hactive, Option.toList_some] at hj
      exact hj
  | run => exact ⟨ho, hj, hm⟩
  | pay _ _ _ _ hleave =>
    rcases hleave with ⟨-, rfl, rfl⟩ | ⟨j, -, rfl, hsub, -⟩
    · exact ⟨ho, hj, hm⟩
    · refine ⟨ho, ?_, (hsub.map _).nodup hm⟩
      have := JobBook.numbers_sublist (b := s.jobs) (b' := { s.jobs with active := none }) (keep := fun _ => true)
        (.inr rfl) (.inl rfl)
      exact (this.map _).nodup hj
  | openShift => exact ⟨ho, hj, hm⟩
  | closeShift => exact ⟨List.nodup_nil, hj, hm⟩

/-! ## Linked notes -/

/-- A message may stay when every job held before is held still. -/
theorem State.NotesLinked.of_holds {s q : State} (hs : s.NotesLinked) (hm : q.msgs = s.msgs)
    (hh : ∀ n, s.jobs.holds n = true → q.jobs.holds n = true) : q.NotesLinked := by
  intro x hx
  obtain ⟨htext, hnote, hplain⟩ := hs x (hm ▸ hx)
  exact ⟨htext, fun hc => (hnote hc).imp fun n hn => ⟨hn.1, hh n hn.2⟩, hplain⟩

/-- When a job leaves with the messages linked to it, the others are linked as before. -/
theorem State.NotesLinked.of_leave {s : State} (hs : s.NotesLinked) {b : JobBook} {m : Messages} {n : Nat}
    (hsub : m.store.Sublist s.msgs.store) (hfree : ∀ x ∈ m.store, x.linkedTo n = false)
    (hb : ∀ k, k ≠ n → s.jobs.holds k = true → b.holds k = true) {q : State} (hqm : q.msgs = m)
    (hqj : q.jobs = b) : q.NotesLinked := by
  intro x hx
  rw [hqm] at hx
  rw [hqj]
  obtain ⟨htext, hnote, hplain⟩ := hs x (hsub.subset hx)
  refine ⟨htext, fun hc => ?_, hplain⟩
  obtain ⟨k, hk, hheld⟩ := hnote hc
  refine ⟨k, hk, hb k (fun hkn => ?_) hheld⟩
  have := hfree x hx
  rw [hkn] at hk
  simp [Message.linkedTo, hc, hk] at this

theorem State.Moves.notesLinked {done : Prop} {s s' : State} (h : s.Moves done s') (hs : s.NotesLinked) :
    s'.NotesLinked := by
  induction h with
  | trans _ _ ih ih' => exact ih' (ih hs)
  | radio h => exact h.work.keeps (P := State.NotesLinked) fun _ _ _ => hs
  | joinActive hnone _ _ =>
    refine hs.of_holds rfl fun n hn => ?_
    simp only [JobBook.holds_iff, JobBook.jobs, hnone, Option.toList_none, List.nil_append] at hn ⊢
    exact List.mem_cons_of_mem _ hn
  | joinQueued _ _ _ _ =>
    refine hs.of_holds rfl fun n hn => ?_
    simp only [JobBook.holds_iff, State.setJobs_jobs, JobBook.jobs, List.map_append, List.mem_append] at hn ⊢
    exact hn.imp_right .inl
  | promote hnone hqueued =>
    refine hs.of_holds rfl fun n hn => ?_
    simp only [JobBook.holds_iff, JobBook.jobs, hnone, hqueued, Option.toList_none, List.nil_append] at hn
    exact JobBook.holds_iff.mpr hn
  | arrive arrived hactive _ =>
    refine hs.of_holds rfl fun n hn => ?_
    simp only [JobBook.holds_iff, JobBook.jobs, hactive, Option.toList_some] at hn
    exact JobBook.holds_iff.mpr hn
  | @leave s b m n ha hq hsub hfree =>
    refine hs.of_leave hsub hfree (fun k hk hheld => ?_) rfl rfl
    simp only [JobBook.holds_iff, JobBook.jobs, List.map_append, List.mem_append, State.setMsgs_jobs,
      State.setJobs_jobs] at hheld ⊢
    refine hheld.imp (fun h => ?_) fun h => ?_
    · rcases ha with ha | ⟨-, j, hj, hjn, -⟩
      · rw [ha]
        exact h
      · rw [hj] at h
        simp only [Option.toList_some, List.map_cons, List.map_nil, List.mem_singleton] at h
        exact (hk (h.trans hjn)).elim
    · rcases hq with hq | hq
      · rw [hq]
        exact h
      · rw [hq]
        obtain ⟨j, hj, rfl⟩ := List.mem_map.mp h
        exact List.mem_map.mpr ⟨j, List.mem_filter.mpr ⟨hj, by simpa using hk⟩, rfl⟩
  | msgs _ hsame =>
    intro x hx
    obtain ⟨y, hy, ht, hc, hj⟩ := hsame x hx
    rw [ht, hc, hj]
    exact hs y hy
  | addMessage ht hsub _ _ htext hnote hplain =>
    intro y hy
    rw [State.setMsgs_msgs, ht] at hy
    rcases List.mem_append.mp hy with hy | hy
    · exact hs y (hsub.subset hy)
    · rw [List.mem_singleton.mp hy]
      exact ⟨htext, hnote, hplain⟩
  | _ => exact hs

theorem State.Turn.notesLinked {s s' : State} (h : s.Turn s') (hs : s.NotesLinked) : s'.NotesLinked := by
  cases h with
  | hire _ _ _ _ _ hjobs =>
    refine hs.of_holds rfl fun n hn => ?_
    rcases hjobs with ⟨-, rfl⟩ | ⟨j, hactive, -, -, rfl⟩
    · exact hn
    · simp only [JobBook.holds_iff, JobBook.jobs, hactive, Option.toList_some] at hn
      exact JobBook.holds_iff.mpr hn
  | run => exact hs
  | pay _ _ _ _ hleave =>
    rcases hleave with ⟨-, rfl, rfl⟩ | ⟨j, hactive, rfl, hsub, hfree⟩
    · exact hs
    · refine hs.of_leave hsub hfree (fun k hk hheld => ?_) rfl rfl
      simp only [JobBook.holds_iff, JobBook.jobs, hactive, Option.toList_some, List.map_append, List.mem_append,
        List.map_cons, List.map_nil, List.mem_singleton] at hheld
      simp only [JobBook.holds_iff, JobBook.jobs]
      exact hheld.resolve_left hk
  | openShift => exact hs
  | closeShift => exact hs

/-! ## CTXD -/

theorem State.Moves.ctxdServed {done : Prop} {s s' : State} (h : s.Moves done s') (hs : s.cab.CtxdServed) :
    s'.cab.CtxdServed := by
  induction h with
  | trans _ _ ih ih' => exact ih' (ih hs)
  | cab hc => exact hc.served hs
  | sent _ hc => exact hc.served hs
  | radio h => exact h.work.keeps (P := fun q => q.cab.CtxdServed) fun _ _ _ => hs
  | _ => exact hs

/-! ## The rules of a call -/

theorem State.noBidInCall_iff {s : State} :
    s.NoBidInCall ↔ (s.emu.inCall = true → UplinkKind.bid ∉ kinds s.uls.queue) := by
  simp [State.NoBidInCall, kinds]

theorem State.Moves.noBidInCall {done : Prop} {s s' : State} (h : s.Moves done s') (hs : s.NoBidInCall) :
    s'.NoBidInCall := by
  rw [State.noBidInCall_iff] at hs ⊢
  induction h with
  | trans _ _ ih ih' => exact ih' (ih hs)
  | radio h =>
    intro hc hb
    rw [h.work.emu] at hc
    rcases h.bids hb with hcall | hb
    · rw [hc] at hcall
      cases hcall
    · exact hs hc hb
  | emu hcall _ _ =>
    intro hc
    rcases hcall hc with h | h
    · exact hs h
    · exact h
  | _ => exact hs

theorem State.Moves.noOffersWhenClosed {done : Prop} {s s' : State} (h : s.Moves done s')
    (hs : s.NoOffersWhenClosed) : s'.NoOffersWhenClosed := by
  induction h with
  | trans _ _ ih ih' => exact ih' (ih hs)
  | radio h => exact h.work.keeps (P := State.NoOffersWhenClosed) fun _ _ _ => hs
  | offers h =>
    intro hc
    have hnil := hs hc
    rw [hnil, List.map_nil, List.sublist_nil, List.map_eq_nil_iff] at h
    exact h
  | addOffer _ _ _ _ hb ho hm =>
    rintro (hc | hc | hc)
    · exact nomatch hc.symm.trans hb
    · exact nomatch hc.symm.trans ho
    · exact (hm hc).elim
  | emu _ hcall _ =>
    rintro (hc | hc | hc)
    · exact hs (.inl hc)
    · exact (hcall hc).elim (fun h => hs (.inr (.inl h))) id
    · exact hs (.inr (.inr hc))
  | dcu hbar _ _ =>
    rintro (hc | hc | hc)
    · exact (hbar hc).elim (fun h => hs (.inl h)) id
    · exact hs (.inr (.inl hc))
    · exact hs (.inr (.inr hc))
  | _ => exact hs

theorem State.Turn.noOffersWhenClosed {s s' : State} (h : s.Turn s') (hs : s.NoOffersWhenClosed) :
    s'.NoOffersWhenClosed := by
  cases h with
  | hire =>
    rintro (hc | hc | hc)
    · exact hs (.inl hc)
    · exact hs (.inr (.inl hc))
    · cases hc
  | run hmode =>
    rintro (hc | hc | hc)
    · exact hs (.inl hc)
    · exact hs (.inr (.inl hc))
    · rcases hmode with ⟨-, rfl⟩ | ⟨-, rfl⟩
      · cases hc
      · cases hc
  | pay =>
    rintro (hc | hc | hc)
    · exact hs (.inl hc)
    · exact hs (.inr (.inl hc))
    · cases hc
  | openShift _ _ _ hmode => exact fun _ => hs (.inr (.inr hmode))
  | closeShift => exact fun _ => rfl

theorem State.Moves.callShape {done : Prop} {s s' : State} (h : s.Moves done s') (hs : s.CallShape) :
    s'.CallShape := by
  induction h with
  | trans _ _ ih ih' => exact ih' (ih hs)
  | radio h => exact h.work.keeps (P := State.CallShape) fun _ _ _ => hs
  | emu _ _ h => exact h hs
  | _ => exact hs

theorem State.Turn.emu {s s' : State} (h : s.Turn s') : s'.emu = s.emu := by
  cases h <;> rfl

end Sys2Proof.Machine

section

open Sys2Proof Sys2Proof.Machine

/-- Settles O56: each collection grows by one entry only where there is room, with a number that is free, and a job
leaves with its messages. -/
theorem stepKeepsCollections : Obligations.StepKeepsCollections := by
  intro s s' h
  refine ⟨fun hs => ?_, fun hs => ?_, fun hs => ?_, fun hs => ?_⟩
  · refine step_keeps (P := State.Bounded) (fun _ _ _ _ _ _ _ h => h) (fun _ _ _ h => h.bounded)
      (fun _ _ h => h.bounded) (fun _ => State.respond_bounded) (fun q _ => ?_) (fun q _ => ?_) h hs
    · obtain ⟨ho, hj, hm, -, hq, -, -, hc⟩ := q.powerOn_volatile
      refine ⟨?_, ?_, ?_, ?_, hc.responses.trans (by decide), hc.notices (by decide)⟩
      · rw [hq]
        decide
      · rw [ho]
        decide
      · rw [hj]
        decide
      · rw [hm]
        decide
    · exact ⟨Nat.zero_le _, Nat.zero_le _, Nat.zero_le _, Nat.zero_le _, Nat.zero_le _, Nat.zero_le _⟩
  · refine step_keeps (P := State.Distinct) (fun _ _ _ _ _ _ _ h => h) (fun _ _ _ h => h.distinct)
      (fun _ _ h => h.distinct) (fun _ _ _ _ _ h => h) (fun q _ => ?_) (fun q _ => ?_) h hs
    · obtain ⟨ho, hj, hm, -⟩ := q.powerOn_volatile
      rw [State.Distinct, ho, hj, hm]
      exact ⟨List.nodup_nil, List.nodup_nil, List.nodup_nil⟩
    · exact ⟨List.nodup_nil, List.nodup_nil, List.nodup_nil⟩
  · refine step_keeps (P := State.NotesLinked) (fun _ _ _ _ _ _ _ h => h) (fun _ _ _ h => h.notesLinked)
      (fun _ _ h => h.notesLinked) (fun _ _ _ _ _ h => h) (fun q _ => ?_) (fun q _ => ?_) h hs
    · intro x hx
      rw [q.powerOn_volatile.2.2.1] at hx
      cases hx
    · exact fun x hx => nomatch hx
  · refine step_keeps (P := fun q => q.cab.CtxdServed) (fun _ _ _ _ _ _ _ h => h) (fun _ _ _ h => h.ctxdServed)
      (fun q q' h hq => ?_) (fun _ _ _ _ _ _ => CabPort.join_served _ _) (fun q _ => ?_) (fun q _ => ?_) h hs
    · obtain ⟨-, -, -, -, -, -, hcab⟩ := h.frame
      rw [hcab]
      exact hq
    · obtain ⟨-, -, -, -, -, -, -, hc⟩ := q.powerOn_volatile
      exact hc.served fun _ => rfl
    · exact fun _ => rfl

/-- Settles O57: a call begins with the BIDs gone and, when it is overt, the offers gone; and no BID and no offer joins
while it lasts. -/
theorem stepKeepsCallRules : Obligations.StepKeepsCallRules := by
  intro s s' h
  refine ⟨fun hs => ?_, fun hs => ?_, fun hs => ?_⟩
  · refine step_keeps (P := State.NoBidInCall) (fun _ _ _ _ _ _ _ h => h) (fun _ _ _ h => h.noBidInCall)
      (fun q q' h hq => ?_) (fun _ _ _ _ _ h => h) (fun q _ => ?_) (fun q _ => ?_) h hs
    · rw [State.NoBidInCall, h.emu, h.sched]
      exact hq
    · intro _ e he
      rw [q.powerOn_volatile.2.2.2.2.1] at he
      cases he
    · exact fun _ e he => nomatch he
  · refine step_keeps (P := State.NoOffersWhenClosed) (fun _ _ _ _ _ _ _ h => h)
      (fun _ _ _ h => h.noOffersWhenClosed) (fun _ _ h => h.noOffersWhenClosed) (fun _ _ _ _ _ h => h)
      (fun q _ _ => ?_) (fun q _ _ => rfl) h hs
    rw [q.powerOn_volatile.1]
    rfl
  · refine step_keeps (P := State.CallShape) (fun _ _ _ _ _ _ _ h => h) (fun _ _ _ h => h.callShape)
      (fun q q' h hq => ?_) (fun _ _ _ _ _ h => h) (fun q _ => ?_) (fun q _ => ?_) h hs
    · rw [State.CallShape, h.emu]
      exact hq
    · rw [State.CallShape, q.powerOn_volatile.2.2.2.1]
      simp [Emergency.reset, Emergency.inCall]
    · simp [State.CallShape, State.blank, Emergency.reset, Emergency.inCall]

end
end

section
/-!
PROOFS. The meter state, the numbers of a trip, the records and the charged amount through every step.
-/

namespace Sys2Proof.Machine

/-! ## The retained items after a power-on (R135, R199) -/

theorem State.storeChecked_of_latch {s : State} (h : s.vbakLatch = true) :
    s.storeChecked.meter = Meter.reset ∧ s.storeChecked.trips = Trips.reset
      ∧ s.storeChecked.dcu = Dcu.reset := by
  unfold State.storeChecked
  rw [if_pos h]
  exact ⟨rfl, rfl, rfl⟩

theorem State.storeChecked_of_valid {s : State} (h : ¬ s.vbakLatch = true) :
    s.storeChecked.meter = s.meter.retained ∧ s.storeChecked.trips = s.trips.retained
      ∧ s.storeChecked.dcu = { s.dcu.retained with retainedValid := true } := by
  unfold State.storeChecked
  rw [if_neg h]
  exact ⟨rfl, rfl, rfl⟩

theorem State.closeInterrupted_dcu (s : State) : s.closeInterrupted.dcu = s.dcu := by
  unfold State.closeInterrupted
  split <;> rfl

/-- The meter after a power-on: with no trip and no metres, and VACANT where one was in progress. -/
theorem State.closeInterrupted_meter (s : State) :
    s.closeInterrupted.meter =
      { s.meter with mode := if s.meter.trip.isSome then .vacant else s.meter.mode, trip := none } := by
  unfold State.closeInterrupted
  split
  next p h => simp [h]
  next h =>
    rw [h]
    simp only [Option.isSome_none, Bool.false_eq_true, if_false]
    rw [← h]

theorem State.closeInterrupted_current (s : State) :
    s.closeInterrupted.trips.current.isSome = s.trips.current.isSome := by
  unfold State.closeInterrupted
  split
  · simp [Trips.close]
  · rfl

/-! ## Trip, shift and bound job with the meter state (R92, R109, R110, R137) -/

theorem State.Moves.shiftShape {done : Prop} {s s' : State} (h : s.Moves done s') (hs : s.ShiftShape) :
    s'.ShiftShape := by
  induction h with
  | trans _ _ ih ih' => exact ih' (ih hs)
  | radio h => exact h.work.keeps (P := State.ShiftShape) fun _ _ _ => hs
  | trip h _ _ _ =>
    obtain ⟨htrip, hcur⟩ := hs
    rw [h] at htrip
    exact ⟨htrip, hcur⟩
  | trips h _ _ =>
    obtain ⟨htrip, hcur⟩ := hs
    exact ⟨htrip, by rw [State.setTrips_trips, h]; exact hcur⟩
  | _ => exact hs

theorem State.Turn.shiftShape {s s' : State} (h : s.Turn s') (hs : s.ShiftShape) : s'.ShiftShape := by
  obtain ⟨htrip, hcur⟩ := hs
  cases h with
  | hire hmode _ _ _ _ _ => simpa [State.ShiftShape, hmode] using hcur
  | run hmode => rcases hmode with ⟨hm, rfl⟩ | ⟨hm, rfl⟩ <;> simp_all [State.ShiftShape]
  | pay _ _ hmode _ _ => simpa [State.ShiftShape, hmode, Trips.close] using hcur
  | openShift _ _ _ hmode => simpa [State.ShiftShape, hmode] using htrip
  | closeShift _ hmode _ ht =>
    rcases ht with ⟨r, -, rfl⟩ | ⟨hnone, rfl⟩
    · simpa [State.ShiftShape, hmode] using htrip
    · simpa [State.ShiftShape, hmode, hnone] using htrip

/-- No job is ON-BOARD while no trip is in progress. -/
theorem State.OnBoardIsBound.not_onBoard {s : State} (hs : s.OnBoardIsBound) (hv : s.vdd = true)
    (ht : ∀ p j, s.meter.trip = some p → s.jobs.active = some j → p.job ≠ some j.number) {j : Job}
    (hj : s.jobs.active = some j) : j.state ≠ .onBoard := by
  intro hb
  obtain ⟨p, hp, hpj⟩ := (hs hv).1 j hj hb
  exact ht p j hp hj hpj

/-- A place taken by a job that is not ON-BOARD leaves the binding as it is. -/
theorem State.OnBoardIsBound.of_active {s q : State} (hs : s.OnBoardIsBound) (hv : q.vdd = s.vdd)
    (hm : q.meter = s.meter)
    (ha : ∀ j, s.jobs.active = some j → q.jobs.active = some j ∨ j.state ≠ .onBoard)
    (ha' : ∀ j, q.jobs.active = some j → s.jobs.active = some j ∨ j.state ≠ .onBoard)
    (hq : s.vdd = true → (∀ j ∈ s.jobs.queued, j.state = .assigned ∧ j.arrived = none) →
      ∀ j ∈ q.jobs.queued, j.state = .assigned ∧ j.arrived = none) : q.OnBoardIsBound := by
  intro hqv
  rw [hv] at hqv
  obtain ⟨hboard, hbound, hqueued⟩ := hs hqv
  rw [hm]
  refine ⟨fun j hj hb => ?_, fun p n hp hn => ?_, hq hqv hqueued⟩
  · rcases ha' j hj with h | h
    · exact hboard j h hb
    · exact (h hb).elim
  · obtain ⟨j, hj, hjn, hb⟩ := hbound p n hp hn
    rcases ha j hj with h | h
    · exact ⟨j, h, hjn, hb⟩
    · exact (h hb).elim

theorem State.Moves.onBoardIsBound {done : Prop} {s s' : State} (h : s.Moves done s') (hs : s.OnBoardIsBound) :
    s'.OnBoardIsBound := by
  induction h with
  | trans _ _ ih ih' => exact ih' (ih hs)
  | radio h => exact h.work.keeps (P := State.OnBoardIsBound) fun _ _ _ => hs
  | joinActive hnone _ hj =>
    refine hs.of_active rfl rfl (fun j hj' => ?_) (fun j hj' => ?_) fun _ h => h
    · rw [hnone] at hj'
      cases hj'
    · cases hj'
      exact .inr (by rw [hj]; decide)
  | joinQueued _ _ hj harr =>
    refine hs.of_active rfl rfl (fun _ => .inl) (fun _ => .inl) fun _ h j hmem => ?_
    rcases List.mem_append.mp hmem with hmem | hmem
    · exact h j hmem
    · rw [List.mem_singleton.mp hmem]
      exact ⟨hj, harr⟩
  | @promote s j rest hnone hqueued =>
    intro hv
    obtain ⟨hj, -⟩ := (hs hv).2.2 j (by rw [hqueued]; exact List.mem_cons_self)
    refine hs.of_active rfl rfl (fun _ hj' => ?_) (fun _ hj' => ?_) (fun _ h x hx => ?_) hv
    · rw [hnone] at hj'
      cases hj'
    · cases hj'
      exact .inr (by rw [hj]; decide)
    · exact h x (by rw [hqueued]; exact List.mem_cons_of_mem _ hx)
  | arrive _ hj hstate =>
    refine hs.of_active rfl rfl (fun _ hj' => ?_) (fun _ hj' => ?_) fun _ h => h
    · rw [hj] at hj'
      cases hj'
      exact .inr (by rw [hstate]; decide)
    · cases hj'
      exact .inr nofun
  | leave hactive hqueued _ _ =>
    refine hs.of_active rfl rfl (fun j hj => ?_) (fun j hj => ?_) fun _ h x hx => ?_
    · rcases hactive with h | ⟨-, x, hx, -, hboard⟩
      · exact .inl (h.trans hj)
      · rw [hx] at hj
        cases hj
        exact .inr hboard
    · rcases hactive with h | ⟨h, -⟩
      · exact .inl (h.symm.trans hj)
      · rw [State.setMsgs_jobs, State.setJobs_jobs, h] at hj
        cases hj
    · rw [State.setMsgs_jobs, State.setJobs_jobs] at hx
      rcases hqueued with hq | hq
      · exact h x (hq ▸ hx)
      · rw [hq] at hx
        exact h x (List.mem_of_mem_filter hx)
  | @trip s p p' hp hjob _ _ =>
    intro hv
    obtain ⟨hboard, hbound, hqueued⟩ := hs hv
    refine ⟨fun j hj hb => ?_, fun q n hq hn => ?_, hqueued⟩
    · obtain ⟨q, hq, hn⟩ := hboard j hj hb
      rw [hp] at hq
      cases hq
      exact ⟨p', rfl, hjob.trans hn⟩
    · cases hq
      exact hbound p n hp (hjob.symm.trans hn)
  | _ => exact hs

theorem State.Turn.onBoardIsBound {s s' : State} (h : s.Turn s') (hshape : s.ShiftShape)
    (hs : s.OnBoardIsBound) : s'.OnBoardIsBound := by
  intro hv
  have hv' : s.vdd = true := by
    obtain ⟨-, h, -⟩ := h.frame
    exact h ▸ hv
  have hqueued := (hs hv').2.2
  cases h with
  | hire hmode _ _ _ _ hjobs =>
    have hnone : s.meter.trip = none := by
      have := hshape.1
      simpa [hmode] using this
    rcases hjobs with ⟨hjob, rfl⟩ | ⟨j, -, -, hjob, rfl⟩
    · refine ⟨fun j hj hb => ?_, fun p n hp hn => ?_, hqueued⟩
      · exact (hs.not_onBoard hv' (fun p j hp => by rw [hnone] at hp; cases hp) hj hb).elim
      · cases hp
        rw [hjob] at hn
        cases hn
    · refine ⟨fun x hx _ => ?_, fun p n hp hn => ?_, hqueued⟩
      · cases hx
        exact ⟨_, rfl, hjob⟩
      · cases hp
        rw [hjob] at hn
        cases hn
        exact ⟨_, rfl, rfl, rfl⟩
  | run => exact hs hv'
  | pay _ _ _ htrip hleave =>
    rcases hleave with ⟨hfree, rfl, rfl⟩ | ⟨j, -, rfl, -⟩
    · refine ⟨fun j hj hb => (hs.not_onBoard hv' (fun p x hp hx hpx => ?_) hj hb).elim,
        fun _ _ hp => (nomatch hp), hqueued⟩
      rw [htrip] at hp
      cases hp
      rcases hfree with hfree | hfree
      · rw [hfree] at hpx
        cases hpx
      · rw [hfree] at hx
        cases hx
    · exact ⟨fun _ hj => (nomatch hj), fun _ _ hp => (nomatch hp), hqueued⟩
  | openShift => exact hs hv'
  | closeShift => exact hs hv'

/-- A change of the meter state is along an edge (R110). -/
theorem State.Turn.edge {s s' : State} (h : s.Turn s') : s.meter.mode.edge s'.meter.mode = true := by
  cases h with
  | hire hmode => rw [hmode]; rfl
  | run hmode => rcases hmode with ⟨hm, rfl⟩ | ⟨hm, rfl⟩ <;> (rw [hm]; rfl)
  | pay _ _ hmode => rw [hmode]; rfl
  | openShift _ _ _ hmode => rw [hmode]; rfl
  | closeShift _ hmode => rw [hmode]; rfl

theorem State.Runs.edge {done turn : Prop} {s s' : State} (h : s.Runs done turn s')
    (hne : s'.meter.mode ≠ s.meter.mode) : s.meter.mode.edge s'.meter.mode = true ∧ turn := by
  rcases h with h | ⟨ht, q, q', hq, hturn, hq'⟩
  · exact (hne h.mode).elim
  · rw [hq'.mode, ← hq.mode]
    exact ⟨hturn.edge, ht⟩

end Sys2Proof.Machine

section
open Sys2Proof Sys2Proof.Machine

/-- Settles O58: the meter state changes only as a trip or a shift begins or ends, and a job is bound or leaves with
it; a command makes at most one such change. -/
theorem stepKeepsMeterShape : Obligations.StepKeepsMeterShape := by
  have hshapeOn : ∀ q : State, q.ShiftShape → q.powerOn.ShiftShape := by
    intro q hq
    obtain ⟨hm, ht, -⟩ := q.powerOn_retained
    rw [State.ShiftShape, hm, ht, State.closeInterrupted_meter, State.closeInterrupted_current]
    by_cases hl : q.vbakLatch = true
    · obtain ⟨hm, ht, -⟩ := State.storeChecked_of_latch hl
      rw [hm, ht]
      decide
    · obtain ⟨hm, ht, -⟩ := State.storeChecked_of_valid hl
      rw [hm, ht]
      obtain ⟨htrip, hcur⟩ := hq
      cases hp : q.meter.trip <;> simp_all [Meter.retained, Trips.retained]
      cases hmode : q.meter.mode <;> simp_all
  refine ⟨fun s s' h hs => ?_, fun s s' h hshape hs => ?_, fun i s s' h hon hne => ?_⟩
  · exact step_keeps (P := State.ShiftShape) (fun _ _ _ _ _ _ _ h => h) (fun _ _ _ h => h.shiftShape)
      (fun _ _ h => h.shiftShape) (fun _ _ _ _ _ h => h) hshapeOn (fun _ h => h) h hs
  · refine (step_keeps (P := fun q => q.ShiftShape ∧ q.OnBoardIsBound) (fun _ _ _ _ _ _ _ h => h)
      (fun _ _ _ h hq => ⟨h.shiftShape hq.1, h.onBoardIsBound hq.2⟩)
      (fun _ _ h hq => ⟨h.shiftShape hq.1, h.onBoardIsBound hq.1 hq.2⟩) (fun _ _ _ _ _ h => h)
      (fun q hq => ⟨hshapeOn q hq.1, fun _ => ?_⟩) (fun q hq => ⟨hq.1, fun hv => (nomatch hv)⟩) h
      ⟨hshape, hs⟩).2
    obtain ⟨-, hj, -⟩ := q.powerOn_volatile
    obtain ⟨hm, -⟩ := q.powerOn_retained
    rw [hj, hm, State.closeInterrupted_meter]
    exact ⟨fun _ h => (nomatch h), fun _ _ h => (nomatch h), fun _ h => (nomatch h)⟩
  · by_cases hl : i = .lossOfMainPower
    · subst hl
      cases h
      unfold State.losePower at hne
      split at hne
      · exact (hne rfl).elim
      · exact (hne rfl).elim
    · refine (exec_reaches (P := fun q => q.meter.mode = s.meter.mode) (fun _ _ _ _ _ _ _ h => h)
        (Q := fun q => q.meter.mode = s.meter.mode ∨ s.meter.mode.edge q.meter.mode = true ∧ turns i)
        (fun _ _ hm hq => hm.mode.trans hq) (fun q q' hr hq => ?_) h hon hl rfl).resolve_left hne
      by_cases hsame : q'.meter.mode = q.meter.mode
      · exact .inl (hsame.trans hq)
      · exact .inr (hq ▸ hr.edge hsame)

end
end

section
/-!
PROOFS. The numbers of a trip and of the residue through every step.
-/

namespace Sys2Proof.Machine

theorem nearestBand_mem {moment d : Nat} {b : Band} {bands : List Band} (h : nearestBand moment bands = some (d, b)) :
    b ∈ bands := by
  induction bands generalizing d b with
  | nil => cases h
  | cons x rest ih =>
    unfold nearestBand at h
    split at h
    next => exact List.mem_cons_of_mem _ (ih h)
    next =>
      cases h
      exact List.mem_cons_self
    next d d' b' _ hrest =>
      split at h
      · cases h
        exact List.mem_cons_self
      · cases h
        exact List.mem_cons_of_mem _ (ih hrest)

/-- Every selection in a sound set names one of its tariffs (R124, R187). -/
theorem TariffSet.sound.select {set : TariffSet} (h : set.sound) (s : State) :
    ∃ t, set.tariff (s.select set) = some t ∧ t.sound := by
  obtain ⟨hne, hsound, hbands⟩ := h
  have hsel : 1 ≤ s.select set ∧ s.select set ≤ set.tariffs.length := by
    have hone : 1 ≤ set.tariffs.length := List.length_pos_iff.mpr hne
    unfold State.select
    split
    · unfold TariffSet.selectAt
      split
      next hb => exact hbands _ (nearestBand_mem hb)
      next => exact ⟨le_rfl, hone⟩
    · exact ⟨le_rfl, hone⟩
  have hlt : s.select set - 1 < set.tariffs.length := by omega
  refine ⟨set.tariffs[s.select set - 1], ?_, hsound _ (List.getElem_mem hlt)⟩
  rw [TariffSet.tariff, if_neg (by omega), List.getElem?_eq_getElem hlt]

theorem Tariff.sound.threshold_pos {t : Tariff} (h : t.sound) (kind : ThresholdKind) : 0 < t.threshold kind := by
  obtain ⟨hd, ht, hf⟩ := h
  have hregular : 0 < t.distance * t.time := Nat.mul_pos (by omega) (by omega)
  cases kind with
  | first => exact Nat.mul_pos (by omega) hregular
  | regular => exact hregular

theorem State.Moves.progressBelow {done : Prop} {s s' : State} (h : s.Moves done s') (hs : s.ProgressBelow) :
    s'.ProgressBelow := by
  induction h with
  | trans _ _ ih ih' => exact ih' (ih hs)
  | radio h => exact h.work.keeps (P := State.ProgressBelow) fun _ _ _ => hs
  | trip _ _ _ h => exact h hs
  | pend hb =>
    obtain ⟨hactive, -, htrip⟩ := hs
    refine ⟨hactive, fun b h => ?_, htrip⟩
    cases h
    exact hb
  | _ => exact hs

theorem State.Turn.progressBelow {s s' : State} (h : s.Turn s') (hs : s.ProgressBelow) : s'.ProgressBelow := by
  obtain ⟨hactive, hpending, htrip⟩ := hs
  cases h with
  | @hire p b pending ready jobs _ hbank hprogress hthreshold htariff _ =>
    have hb : b.set.sound ∧ ∀ x, pending = some x → x.set.sound := by
      rcases hbank with ⟨ha, rfl⟩ | ⟨hp, rfl⟩
      · exact ⟨hactive b ha, hpending⟩
      · exact ⟨hpending b hp, nofun⟩
    refine ⟨fun x hx => ?_, hb.2, fun q hq => ?_⟩
    · cases hx
      exact hb.1
    · cases hq
      obtain ⟨t, ht, hsound⟩ := hb.1.select s
      refine ⟨t, ?_, ?_⟩
      · rw [htariff]
        exact ht
      · rw [hprogress]
        exact hsound.threshold_pos _
  | run => exact ⟨hactive, hpending, htrip⟩
  | pay => exact ⟨hactive, hpending, nofun⟩
  | openShift => exact ⟨hactive, hpending, htrip⟩
  | closeShift => exact ⟨hactive, hpending, htrip⟩

theorem State.Moves.residueBelow {done : Prop} {s s' : State} (h : s.Moves done s') (hs : s.ResidueBelow) :
    s'.ResidueBelow := by
  induction h with
  | trans _ _ ih ih' => exact ih' (ih hs)
  | radio h => exact h.work.keeps (P := State.ResidueBelow) fun _ _ _ => hs
  | metres h => exact h hs
  | calibrate h =>
    obtain ⟨hk, hk', hv, hv'⟩ := h
    exact ⟨hk, hk', hv, hv', by simp only [State.setMeter_meter]; omega⟩
  | _ => exact hs

/-- A change of the meter state leaves the calibration and the metres alone. -/
theorem State.Turn.counts {s s' : State} (h : s.Turn s') :
    s'.meter.calibration = s.meter.calibration ∧ s'.meter.residue = s.meter.residue ∧ s'.meter.m = s.meter.m := by
  cases h <;> exact ⟨rfl, rfl, rfl⟩

theorem State.ResidueBelow.of_counts {s q : State} (hs : s.ResidueBelow)
    (hc : q.meter.calibration = s.meter.calibration) (hr : q.meter.residue = s.meter.residue)
    (hm : q.meter.m = s.meter.m ∨ q.meter.m = 0) : q.ResidueBelow := by
  unfold State.ResidueBelow at hs ⊢
  rw [hc, hr]
  cases hcal : s.meter.calibration with
  | some c =>
    rw [hcal] at hs
    exact hs
  | none =>
    rw [hcal] at hs
    exact ⟨hs.1, hm.elim (fun h => h.trans hs.2) id⟩

end Sys2Proof.Machine

section
open Sys2Proof Sys2Proof.Machine

/-- Settles O59: a trip begins with no progress on a tariff of a sound set, and each contribution is followed by the
drops it gives; the residue keeps less than a metre. -/
theorem stepKeepsMeterNumbers : Obligations.StepKeepsMeterNumbers := by
  intro s s' h
  refine ⟨fun hs => ?_, fun hs => ?_⟩
  · refine step_keeps (P := State.ProgressBelow) (fun _ _ _ _ _ _ _ h => h) (fun _ _ _ h => h.progressBelow)
      (fun _ _ h => h.progressBelow) (fun _ _ _ _ _ h => h) (fun q hq => ?_) (fun _ hq => hq) h hs
    rw [State.ProgressBelow, q.powerOn_retained.1, State.closeInterrupted_meter]
    by_cases hl : q.vbakLatch = true
    · rw [(State.storeChecked_of_latch hl).1]
      exact ⟨nofun, nofun, nofun⟩
    · rw [(State.storeChecked_of_valid hl).1]
      exact ⟨hq.1, hq.2.1, nofun⟩
  · refine step_keeps (P := State.ResidueBelow) (fun _ _ _ _ _ _ _ h => h) (fun _ _ _ h => h.residueBelow)
      (fun _ _ h hq => ?_) (fun _ _ _ _ _ h => h) (fun q hq => ?_)
      (fun _ hq => hq.of_counts rfl rfl (.inr rfl)) h hs
    · obtain ⟨hc, hr, hm⟩ := h.counts
      exact hq.of_counts hc hr (.inl hm)
    · by_cases hl : q.vbakLatch = true
      · rw [State.ResidueBelow, q.powerOn_retained.1, State.closeInterrupted_meter,
          (State.storeChecked_of_latch hl).1]
        exact ⟨rfl, rfl⟩
      · have hm : q.powerOn.meter = _ := q.powerOn_retained.1.trans (State.closeInterrupted_meter _)
        rw [(State.storeChecked_of_valid hl).1] at hm
        exact hq.of_counts (by rw [hm]; rfl) (by rw [hm]; rfl) (.inr (by rw [hm]; rfl))

end
end

section
/-!
PROOFS. The records, the clock and the staged image through every step, and the charged amount of a trip.
-/

namespace Sys2Proof.Machine

theorem nextSequence_range (n : Nat) : 1 ≤ nextSequence n ∧ nextSequence n ≤ Config.sequenceMax := by
  unfold nextSequence Config.sequenceMax
  split <;> omega

theorem Trips.ring.close {t : Trips} (h : t.ring) (p : Trip) (form : PayForm) (power : Bool) (stamp : Nat) :
    (t.close p form power stamp).ring := by
  obtain ⟨hlen, -, hslot⟩ := h
  refine ⟨?_, nextSequence_range _, fun n held hn => ?_⟩
  · simpa [Trips.close] using hlen
  · simp only [Trips.close, List.getElem?_set] at hn
    split at hn
    next heq =>
      split at hn
      · cases hn
        exact heq
      · cases hn
    next => exact hslot n held hn

theorem Trips.ring.retained {t : Trips} (h : t.ring) : t.retained.ring := by
  obtain ⟨hlen, hseq, hslot⟩ := h
  refine ⟨by simpa [Trips.retained] using hlen, hseq, fun n held hn => ?_⟩
  simp only [Trips.retained, List.getElem?_map, Option.map_eq_some_iff] at hn
  obtain ⟨o, ho, x, rfl, rfl⟩ := hn
  exact hslot n x ho

theorem ShiftRecord.balanced.countLost {r : ShiftRecord} (h : r.balanced) (lost : Bool) : (r.countLost lost).balanced := by
  unfold ShiftRecord.countLost
  split <;> exact h

/-- A trip adds its charged amount to the sum of its form and to no other, so the sums stay equal until the charged
sum is held (R140). -/
theorem ShiftRecord.balanced.add {r : ShiftRecord} (h : r.balanced) (t : TripRecord) : (r.add t).balanced := by
  intro hlt
  simp only [ShiftRecord.add, sumUp] at hlt ⊢
  have hsum := h (by omega)
  have hpaid : t.charged = t.paid .cash + t.paid .card + t.paid .account + t.paid .unsettled := by
    unfold TripRecord.paid
    cases t.form <;> simp
  omega

theorem State.Balanced.close {s q : State} (hs : s.Balanced) {p : Trip} {form : PayForm} {power : Bool} {stamp : Nat}
    (hq : q.trips = s.trips.close p form power stamp) : q.Balanced := by
  obtain ⟨hcur, hprev⟩ := hs
  rw [State.Balanced, hq]
  refine ⟨fun r hr => ?_, hprev⟩
  simp only [Trips.close, Option.map_eq_some_iff] at hr
  obtain ⟨c, hc, rfl⟩ := hr
  exact ((hcur c hc).countLost _).add _

theorem State.Moves.ring {done : Prop} {s s' : State} (h : s.Moves done s') (hs : s.trips.ring) : s'.trips.ring := by
  induction h with
  | trans _ _ ih ih' => exact ih' (ih hs)
  | radio h => exact h.work.keeps (P := fun q => q.trips.ring) fun _ _ _ => hs
  | trips _ h _ => exact h hs
  | _ => exact hs

theorem State.Turn.ring {s s' : State} (h : s.Turn s') (hs : s.trips.ring) : s'.trips.ring := by
  cases h with
  | pay => exact hs.close _ _ _ _
  | closeShift _ _ _ ht =>
    rcases ht with ⟨r, -, rfl⟩ | ⟨-, rfl⟩
    · exact hs
    · exact hs
  | _ => exact hs

theorem State.Moves.balanced {done : Prop} {s s' : State} (h : s.Moves done s') (hs : s.Balanced) : s'.Balanced := by
  induction h with
  | trans _ _ ih ih' => exact ih' (ih hs)
  | radio h => exact h.work.keeps (P := State.Balanced) fun _ _ _ => hs
  | trips _ _ h => exact h hs
  | _ => exact hs

theorem State.Turn.balanced {s s' : State} (h : s.Turn s') (hs : s.Balanced) : s'.Balanced := by
  cases h with
  | pay => exact hs.close rfl
  | openShift =>
    refine ⟨fun r hr => ?_, hs.2⟩
    cases hr
    exact fun _ => rfl
  | closeShift _ _ _ ht =>
    rcases ht with ⟨r, hr, rfl⟩ | ⟨-, rfl⟩
    · refine ⟨nofun, fun x hx => ?_⟩
      cases hx
      exact hs.1 r hr
    · exact hs
  | _ => exact hs

theorem State.Moves.clockInRange {done : Prop} {s s' : State} (h : s.Moves done s') (hs : s.ClockInRange) :
    s'.ClockInRange := by
  induction h with
  | trans _ _ ih ih' => exact ih' (ih hs)
  | radio h => exact h.work.keeps (P := State.ClockInRange) fun _ _ _ => hs
  | dcu _ h _ => exact h hs
  | _ => exact hs

theorem State.Moves.stagedInside {done : Prop} {s s' : State} (h : s.Moves done s') (hs : s.StagedInside) :
    s'.StagedInside := by
  induction h with
  | trans _ _ ih ih' => exact ih' (ih hs)
  | radio h => exact h.work.keeps (P := State.StagedInside) fun _ _ _ => hs
  | dcu _ _ h => exact h hs
  | _ => exact hs

theorem State.Turn.dcu {s s' : State} (h : s.Turn s') : s'.dcu = s.dcu := by
  cases h <;> rfl

theorem Trips.reset_ring : Trips.reset.ring := by
  refine ⟨rfl, by decide, fun n held hn => ?_⟩
  have hmem := List.mem_of_getElem? hn
  rw [Trips.reset, List.mem_replicate] at hmem
  cases hmem.2

/-- The trips after a power-on: those of the store, with the interrupted trip closed UNSETTLED (R135, R139). -/
theorem State.closeInterrupted_trips (s : State) :
    s.closeInterrupted.trips = s.trips
      ∨ ∃ p, s.closeInterrupted.trips = s.trips.close p .unsettled true s.now := by
  unfold State.closeInterrupted
  split
  · exact .inr ⟨_, rfl⟩
  · exact .inl rfl

theorem State.powerOn_ring {s : State} (hs : s.trips.ring) : s.powerOn.trips.ring := by
  have hstore : s.storeChecked.trips.ring := by
    by_cases hl : s.vbakLatch = true
    · rw [(State.storeChecked_of_latch hl).2.1]
      exact Trips.reset_ring
    · rw [(State.storeChecked_of_valid hl).2.1]
      exact hs.retained
  rw [s.powerOn_retained.2.1]
  rcases s.storeChecked.closeInterrupted_trips with h | ⟨p, h⟩
  · rw [h]
    exact hstore
  · rw [h]
    exact hstore.close _ _ _ _

theorem State.powerOn_balanced {s : State} (hs : s.Balanced) : s.powerOn.Balanced := by
  have hstore : s.storeChecked.Balanced := by
    by_cases hl : s.vbakLatch = true
    · rw [State.Balanced, (State.storeChecked_of_latch hl).2.1]
      exact ⟨nofun, nofun⟩
    · rw [State.Balanced, (State.storeChecked_of_valid hl).2.1]
      exact hs
  rcases s.storeChecked.closeInterrupted_trips with h | ⟨p, h⟩
  · rw [State.Balanced, s.powerOn_retained.2.1, h]
    exact hstore
  · exact hstore.close (s.powerOn_retained.2.1.trans h)

theorem State.powerOn_clockInRange {s : State} (hs : s.ClockInRange) : s.powerOn.ClockInRange := by
  obtain ⟨-, -, hd, -⟩ := s.powerOn_retained
  rw [State.ClockInRange, hd, State.closeInterrupted_dcu]
  by_cases hl : s.vbakLatch = true
  · rw [(State.storeChecked_of_latch hl).2.2]
    exact nofun
  · rw [(State.storeChecked_of_valid hl).2.2]
    exact hs

/-- A trip in progress that has been charged at least `least`. -/
def State.ChargedFrom (least : Nat) (s : State) : Prop :=
  (s.meter.mode = .hired ∨ s.meter.mode = .stopped) ∧ ∃ p, s.meter.trip = some p ∧ least ≤ p.charged

theorem State.Moves.chargedFrom {done : Prop} {least : Nat} {s s' : State} (h : s.Moves done s')
    (hs : s.ChargedFrom least) : s'.ChargedFrom least := by
  induction h with
  | trans _ _ ih ih' => exact ih' (ih hs)
  | radio h => exact h.work.keeps (P := State.ChargedFrom least) fun _ _ _ => hs
  | trip hp _ hcharged _ =>
    obtain ⟨hmode, q, hq, hleast⟩ := hs
    rw [hp] at hq
    cases hq
    exact ⟨hmode, _, rfl, hleast.trans hcharged⟩
  | _ => exact hs

theorem State.Moves.no_trip {done : Prop} {s s' : State} (h : s.Moves done s') (hs : s.meter.trip = none) :
    s'.meter.trip = none := by
  induction h with
  | trans _ _ ih ih' => exact ih' (ih hs)
  | radio h => exact h.work.keeps (P := fun q => q.meter.trip = none) fun _ _ _ => hs
  | trip hp =>
    rw [hs] at hp
    cases hp
  | _ => exact hs

/-- A trip in progress goes on, or is closed and no other begins in the same change. -/
theorem State.Turn.chargedFrom {least : Nat} {s s' : State} (h : s.Turn s') (hs : s.ChargedFrom least) :
    s'.ChargedFrom least ∨ s'.meter.trip = none := by
  obtain ⟨hmode, p, hp, hleast⟩ := hs
  cases h with
  | hire hm => simp [hm] at hmode
  | run hm =>
    refine .inl ⟨?_, p, hp, hleast⟩
    rcases hm with ⟨-, rfl⟩ | ⟨-, rfl⟩
    · exact .inr rfl
    · exact .inl rfl
  | pay => exact .inr rfl
  | openShift _ _ _ hm => simp [hm] at hmode
  | closeShift _ hm => simp [hm] at hmode

theorem State.Runs.chargedFrom {done turn : Prop} {least : Nat} {s s' : State} (h : s.Runs done turn s')
    (hs : s.ChargedFrom least) : s'.ChargedFrom least ∨ s'.meter.trip = none := by
  have hcalm : ∀ {q q' : State}, q.Calm done q' → q.ChargedFrom least → q'.ChargedFrom least :=
    fun h => h.keeps (P := State.ChargedFrom least) (fun _ _ _ _ _ _ _ h => h) (fun _ _ h => h.chargedFrom)
      fun _ _ _ _ _ h => h
  rcases h with h | ⟨-, q, q', hq, hturn, hq'⟩
  · exact .inl (hcalm h hs)
  · rcases hturn.chargedFrom (hcalm hq hs) with h | h
    · exact .inl (hcalm hq' h)
    · exact .inr (hq'.keeps (P := fun x => x.meter.trip = none) (fun _ _ _ _ _ _ _ h => h)
        (fun _ _ h => h.no_trip) (fun _ _ _ _ _ h => h) h)

end Sys2Proof.Machine

section
open Sys2Proof Sys2Proof.Machine

/-- Settles O60: a trip is closed into the slot of its number and into the sum of its form, the clock runs in its
range, and blocks are staged inside the image. -/
theorem stepKeepsRecords : Obligations.StepKeepsRecords := by
  intro s s' h
  refine ⟨fun hs => ?_, fun hs => ?_, fun hs => ?_, fun hs => ?_⟩
  · exact step_keeps (P := fun q => q.trips.ring) (fun _ _ _ _ _ _ _ h => h) (fun _ _ _ h => h.ring)
      (fun _ _ h => h.ring) (fun _ _ _ _ _ h => h) (fun _ => State.powerOn_ring) (fun _ hq => hq.retained) h hs
  · exact step_keeps (P := State.Balanced) (fun _ _ _ _ _ _ _ h => h) (fun _ _ _ h => h.balanced)
      (fun _ _ h => h.balanced) (fun _ _ _ _ _ h => h) (fun _ => State.powerOn_balanced) (fun _ hq => hq) h hs
  · refine step_keeps (P := State.ClockInRange) (fun _ _ _ _ _ _ _ h => h) (fun _ _ _ h => h.clockInRange)
      (fun _ _ h hq => ?_) (fun _ _ _ _ _ h => h) (fun _ => State.powerOn_clockInRange) (fun _ hq => hq) h hs
    rw [State.ClockInRange, h.dcu]
    exact hq
  · refine step_keeps (P := State.StagedInside) (fun _ _ _ _ _ _ _ h => h) (fun _ _ _ h => h.stagedInside)
      (fun _ _ h hq => ?_) (fun _ _ _ _ _ h => h) (fun q _ => ?_) (fun _ _ => nofun) h hs
    · rw [State.StagedInside, h.dcu]
      exact hq
    · rw [State.StagedInside, q.powerOn_volatile.2.2.2.2.2.2.1]
      exact nofun

/-- Settles O33: only a HIRE begins a trip, from VACANT, and every move of a trip adds to its charged amount. -/
theorem chargedAmountNeverFalls : Obligations.ChargedAmountNeverFalls := by
  intro i s s' p p' hmode hp h hp'
  have hreach : s'.ChargedFrom p.charged ∨ s'.meter.trip = none := by
    by_cases hon : i = .powerOn
    · subst hon
      cases h
      rw [s.powerOn_retained.1, State.closeInterrupted_meter]
      exact .inr rfl
    · by_cases hloss : i = .lossOfMainPower
      · subst hloss
        cases h
        unfold State.losePower
        split
        · exact .inl ⟨hmode, p, hp, le_rfl⟩
        · exact .inl ⟨hmode, p, hp, le_rfl⟩
      · exact exec_reaches (P := State.ChargedFrom p.charged) (fun _ _ _ _ _ _ _ h => h)
          (Q := fun q => q.ChargedFrom p.charged ∨ q.meter.trip = none)
          (fun _ _ h => h.chargedFrom) (fun _ _ h => h.chargedFrom) h hon hloss ⟨hmode, p, hp, le_rfl⟩
  rcases hreach with ⟨-, q, hq, hleast⟩ | hnone
  · rw [hp'] at hq
    cases hq
    exact hleast
  · rw [hp'] at hnone
    cases hnone

end
end

section
/-!
PROOFS. Every command answers a next state, and what it does to the timer, the supply and the pins.
-/

namespace Sys2Proof.Machine

/-- A power-on starts the timer at 0, and touches neither the pins nor the queue of commands. -/
theorem State.powerOn_frame (s : State) :
    s.powerOn.now = 0 ∧ s.powerOn.cd = s.cd ∧ s.powerOn.calen = s.calen ∧ s.powerOn.pending = s.pending := by
  have hclose : ∀ q : State, q.closeInterrupted.ms = q.ms ∧ q.closeInterrupted.cd = q.cd
      ∧ q.closeInterrupted.calen = q.calen ∧ q.closeInterrupted.pending = q.pending := by
    intro q
    unfold State.closeInterrupted
    split <;> exact ⟨rfl, rfl, rfl, rfl⟩
  have hstore : s.storeChecked.ms = 0 ∧ s.storeChecked.cd = s.cd ∧ s.storeChecked.calen = s.calen
      ∧ s.storeChecked.pending = s.pending := by
    unfold State.storeChecked
    simp only
    split <;> exact ⟨rfl, rfl, rfl, rfl⟩
  obtain ⟨rng, window, l, c, -, h⟩ := s.powerOn_eq
  obtain ⟨hms, hcd, hcalen, hpending⟩ := hclose s.storeChecked
  obtain ⟨kms, kcd, kcalen, kpending⟩ := hstore
  rw [h]
  exact ⟨congrArg BitVec.toNat (hms.trans kms), hcd.trans kcd, hcalen.trans kcalen, hpending.trans kpending⟩

/-- While every kind of notice is enabled, as after reset, a notice joins (R205, R208). -/
theorem State.raise_of_all {s : State} (h : s.cab.mask = 0x3FF) (kind : NoticeKind) (cause : Nat)
    (summary : List Byte) :
    s.raise kind cause summary = s.setCab (s.cab.joinNotice (.notice kind (BitVec.ofNat 8 cause) summary)) := by
  unfold State.raise
  rw [h, if_pos (by cases kind <;> decide)]

/-- The cab port after the CLOCK notice of a lost store, which leaves at once. -/
def CabPort.afterLoss : CabPort :=
  { CabPort.reset with sending := some [0x7E, 0x03, 0x81, 0x09, 0x01, 0x00, 0x72] }

theorem CabPort.joinNotice_clockLost : CabPort.reset.joinNotice (.notice .clock 1 []) = CabPort.afterLoss := by
  decide

theorem CabPort.joinNotice_linkNochan :
    CabPort.afterLoss.joinNotice (.notice .link 2 [0, 0, 0, 0, 0, 0, 0, 0, 0, 0]) = State.reset.cab := by
  decide

/-- With the latch of VBAK set the backup monitor leaves the lost-store values (R199). -/
theorem State.checkStore_of_latch {s : State} (h : s.vbakLatch = true) :
    (s.blank.setVdd true).checkStore =
      ({ State.reset with cd := s.cd, calen := s.calen, pending := s.pending } : State).setCab CabPort.afterLoss := by
  have hb : (s.blank.setVdd true).vbakLatch = true := h
  unfold State.checkStore
  simp only
  rw [if_pos hb]
  unfold State.loseStore State.clockLostNotice
  rw [State.raise_of_all rfl]
  exact congrArg (State.setCab _) CabPort.joinNotice_clockLost

theorem State.linkSummary_of_reset {s : State} (h : s.link = Link.reset) :
    s.linkSummary s.currentChannel = [0, 0, 0, 0, 0, 0, 0, 0, 0, 0] := by
  have hmode : s.link.mode = .nochan := by rw [h]; rfl
  unfold State.currentChannel State.linkSummary
  rw [if_pos hmode, hmode]
  rfl

/-- With no channel list the link stays in NOCHAN, and its notice says so (R32). -/
theorem State.startLink_of_noChannels {s : State} (hl : s.link = Link.reset) (hd : s.dcu.channels = none)
    (hc : s.cab = CabPort.afterLoss) : s.startLink = s.setCab State.reset.cab := by
  unfold State.startLink
  rw [if_neg (by rw [hd]; decide)]
  unfold State.linkNotice State.linkNoticeOf
  rw [State.raise_of_all (by rw [hc]; rfl), State.linkSummary_of_reset hl, hc]
  exact congrArg (State.setCab _) CabPort.joinNotice_linkNochan

/-- With the latch of VBAK set, a power-on leaves the state after reset (R199, R208). -/
theorem State.powerOn_of_latch {s : State} (h : s.vbakLatch = true) :
    s.powerOn = { State.reset with cd := s.cd, calen := s.calen, pending := s.pending } := by
  have hclose : ∀ q : State, q.meter.trip = none → q.closeInterrupted = q := by
    intro q hq
    unfold State.closeInterrupted
    rw [hq]
  unfold State.powerOn
  rw [State.checkStore_of_latch h, hclose _ rfl, State.startLink_of_noChannels rfl rfl rfl]
  rfl

theorem exec_frame_of_vdd {i : Instr} {s : State} {t : Stamp} (hv : s.vdd = true) (ht : i.stamp = some t) :
    ∃ s', exec i s = .next s' ∧ s'.pending = s.pending ∧ s'.now = max s.now t.toNat ∧ s'.vdd = true
      ∧ s'.vbakLatch = s.vbakLatch ∧ s'.calen = i.calenLevel.getD s.calen
      ∧ ((∀ u, i ≠ .cdRise u ∧ i ≠ .cdFall u) → s'.cd = s.cd) := by
  obtain ⟨s', cd, hexec, hcd, m, hm, hrun⟩ := courses_of_vdd i hv ht
  obtain ⟨hms, hvdd, hlatch, hcd', hcalen, hpending⟩ := hrun.frame
  have hmid : max m.now t.toNat = max s.now t.toNat ∧ m.vdd = s.vdd ∧ m.vbakLatch = s.vbakLatch
      ∧ m.pending = s.pending := by
    rcases hm with rfl | ⟨u, hu, hm⟩
    · exact ⟨rfl, rfl, rfl, rfl⟩
    · obtain ⟨kms, kvdd, klatch, -, -, kpending⟩ := hm.frame
      have know : m.now = max s.now u.toNat := (congrArg BitVec.toNat kms).trans (s.advanceTo_now u)
      exact ⟨by omega, kvdd.trans (s.advanceTo_vdd u), klatch.trans (s.advanceTo_vbakLatch u),
        kpending.trans (s.advanceTo_pending u)⟩
  obtain ⟨mnow, mvdd, mlatch, mpending⟩ := hmid
  refine ⟨s', hexec, ?_, ?_, ?_, ?_, hcalen, fun h => hcd'.trans (hcd h)⟩
  · exact (hpending.trans (m.advanceTo_pending t)).trans mpending
  · have hnow : s'.now = (m.advanceTo t).now := congrArg BitVec.toNat hms
    rw [hnow, m.advanceTo_now, mnow]
  · exact ((hvdd.trans (m.advanceTo_vdd t)).trans mvdd).trans hv
  · exact (hlatch.trans (m.advanceTo_vbakLatch t)).trans mlatch

end Sys2Proof.Machine

section
open Sys2Proof Sys2Proof.Machine

/-- Settles O53: by the cases of the queue. -/
theorem stepRunsFrontCommand : Obligations.StepRunsFrontCommand := by
  refine ⟨fun c rest s h => ?_, fun s h => ?_⟩
  · unfold step
    rw [h]
    rfl
  · unfold step
    rw [h]

/-- Settles O54: a power-on that finds the latch set is evaluated to the state after reset, and each invariant is read
off it. -/
theorem resetIsLostStorePowerOn : Obligations.ResetIsLostStorePowerOn := by
  refine ⟨fun s h => congrArg Host.Outcome.next (State.powerOn_of_latch h), rfl, ?bounded, ?distinct, nofun, nofun,
    nofun, nofun, fun _ => rfl, ?call, ?shift, fun _ => ⟨nofun, nofun, nofun⟩, ⟨nofun, nofun, nofun⟩, ⟨rfl, rfl⟩,
    Trips.reset_ring, ⟨nofun, nofun⟩, nofun, nofun⟩
  case bounded =>
    unfold State.Bounded
    decide
  case distinct => exact ⟨List.nodup_nil, List.nodup_nil, List.nodup_nil⟩
  case call =>
    unfold State.CallShape
    decide
  case shift =>
    unfold State.ShiftShape
    decide

/-- Settles O55: with main power each command with a stamp runs its course, which starts as the timer comes to the
stamp and moves neither the supply nor the pins; without it only the wall clock and the supply act. -/
theorem everyCommandCompletes : Obligations.EveryCommandCompletes := by
  intro i s
  cases ht : i.stamp with
  | none =>
    cases i
    case powerOn =>
      obtain ⟨hnow, hcd, -, hpending⟩ := s.powerOn_frame
      exact ⟨_, rfl, hpending, nofun, fun _ h => (h rfl).elim, fun _ => .inr ⟨hnow, .inl rfl⟩,
        fun h => (h rfl).elim, fun _ h => (h rfl).elim, fun _ => hcd, fun _ h => (h rfl).elim⟩
    case vbakFall =>
      refine ⟨_, rfl, ?_⟩
      have hframe : s.vbakFall.pending = s.pending ∧ s.vbakFall.now = s.now ∧ s.vbakFall.cd = s.cd := by
        unfold State.vbakFall
        split <;> exact ⟨rfl, rfl, rfl⟩
      obtain ⟨hpending, hnow, hcd⟩ := hframe
      exact ⟨hpending, nofun, fun _ h => (h rfl).elim, fun _ => .inl hnow,
        fun h => (h rfl).elim, fun _ h => (h rfl).elim, fun _ => hcd, fun _ _ h => (h rfl).elim⟩
    case lossOfMainPower =>
      refine ⟨_, rfl, ?_⟩
      have hframe : s.losePower.pending = s.pending ∧ s.losePower.cd = s.cd
          ∧ (s.losePower.now = s.now ∨ s.losePower.now = 0) ∧ (s.vdd = false → s.losePower = s) := by
        unfold State.losePower
        split
        next hv => exact ⟨rfl, rfl, .inr rfl, fun h => by rw [hv] at h; cases h⟩
        next => exact ⟨rfl, rfl, .inl rfl, fun _ => rfl⟩
      obtain ⟨hpending, hcd, hnow, hsame⟩ := hframe
      exact ⟨hpending, nofun, fun _ h => (h rfl).elim, fun _ => hnow.imp_right fun h => ⟨h, .inr rfl⟩,
        fun h => (h rfl).elim, fun _ h => (h rfl).elim, fun _ => hcd, fun hv _ _ _ => hsame hv⟩
    all_goals cases ht
  | some t =>
    by_cases hv : s.vdd = true
    · obtain ⟨s', hexec, hpending, hnow, hvdd, hlatch, hcalen, hcd⟩ := exec_frame_of_vdd hv ht
      refine ⟨s', hexec, hpending, fun _ u hu => ?_, fun h => ?_, nofun, fun _ => ⟨hvdd.trans hv.symm, hlatch⟩,
        fun _ _ => hcalen, hcd, fun h => ?_⟩
      · cases hu
        exact hnow
      · rw [hv] at h
        cases h
      · rw [hv] at h
        cases h
    · have hoff := Bool.eq_false_of_not_eq_true hv
      rcases exec_without_vdd i hoff (by simp [ht]) with hexec | ⟨⟨u, hu⟩, hexec⟩
      · exact ⟨s, hexec, rfl, fun h => (hv h).elim, fun _ _ => rfl, nofun, fun _ => ⟨rfl, rfl⟩,
          fun h => (hv h).elim, fun _ => rfl, fun _ _ _ _ => rfl⟩
      · obtain ⟨hms, hvdd, hlatch, hcd, -, hpending⟩ := (s.tickClock_moves (done := False)).frame
        exact ⟨s.tickClock, hexec, hpending, fun h => (hv h).elim, fun _ _ => congrArg BitVec.toNat hms, nofun,
          fun _ => ⟨hvdd, hlatch⟩, fun h => (hv h).elim, fun _ => hcd, fun _ _ _ h => (h u hu).elim⟩

end
end

section
/-!
PROOFS. Air reception: what becomes of a delivery (chapter 1).
-/

namespace Sys2Proof.Machine

/-! ## The fate of an accepted delivery (R8 to R14) -/

/-- The match class by the address kind, with each test written out (R8). -/
theorem State.matchClass_eq (s : State) (h : Header) :
    s.matchClass h =
      if h.addressKind = 0 then if h.address ≠ 0 ∧ h.address = s.address.cab then some .cab else none
      else if h.addressKind = 1 then
        if h.address ≠ 0 ∧ h.address ∈ s.address.groups then some .group else none
      else if h.addressKind = 2 then
        if h.address = 0 ∨ s.zone.zone = 0 then none
        else if h.address = s.zone.zone then some .zone
        else if h.address ∈ [0, 1, 2, 3, 4, 5].map (s.directoryByte s.zone.zone) then some .neighbour
        else none
      else some .all := by
  unfold State.matchClass
  split
  next h0 => rw [if_pos h0]
  next h1 => simp only [h1, List.contains_iff_mem, if_neg Nat.one_ne_zero, if_pos]
  next h2 =>
    have hmem : ¬ (h.address = 0 ∨ s.zone.zone = 0) →
        (h.address ∈ s.neighbours s.zone.zone ↔ h.address ∈ [0, 1, 2, 3, 4, 5].map (s.directoryByte s.zone.zone)) := by
      intro hzero
      rw [State.neighbours, List.mem_filter, bne_iff_ne]
      exact and_iff_left fun ha => hzero (.inl ha)
    simp only [h2, List.contains_iff_mem, OfNat.ofNat_ne_zero, OfNat.ofNat_ne_one, if_false, if_true]
    split
    next => rfl
    next hzero => simp only [hmem hzero]
  next h0 h1 h2 => rw [if_neg h0, if_neg h1, if_neg h2]

theorem State.fate_advanceTo (s : State) (t : Stamp) (h : Header) (body : List Byte) :
    (s.advanceTo t).fate h body = s.fate h body := by
  unfold State.advanceTo
  split <;> rfl

theorem DownKind.fits_iff {k : DownKind} {n : Nat} : k.fits n = false ↔ n < k.bounds.1 ∨ k.bounds.2 < n := by
  unfold DownKind.fits
  simp
  omega

/-- What the kind tests make of a telegram of a known kind that matches (R11 to R14). -/
theorem State.fate_of_kind (s : State) {h : Header} (body : List Byte) {cls : MatchClass} {kind : DownKind}
    (hcls : s.matchClass h = some cls) (hkind : DownKind.ofCode h.kind = some kind) :
    s.fate h body =
      if kind.fits body.length = false then .dropped .lengthErrors
      else if cls = .neighbour ∧ kind ≠ .offer then .dropped .passedBy
      else if s.dcu.barred = true ∧ kind.passesBar = false then .dropped .barredDiscards
      else
        .handed
          { fleet := h.fleet, addressKind := h.addressKind, address := h.address, site := h.site
            kind := kind, body := body, cls := cls } := by
  rw [State.fate, hcls]
  simp only [hkind]

section

variable {s : State} {t : Stamp} {rx : List Byte} {d : Delivery}

/-- An accepted delivery that its fate drops is reported and counted (R7, R8, R11 to R13). -/
theorem exec_deliveryDropped_of_dropped (hv : s.vdd = true) (hc : (s.advanceTo t).closing rx = some d)
    (ha : s.acceptanceFault d = none) {c : RxCounter}
    (hf : s.fate (Header.read d.bytes) d.body = .dropped c) :
    exec (.deliveryDropped t rx) s =
      .next ((s.advanceTo t).afterReport (Header.read d.bytes).site
        (((s.advanceTo t).found (Header.read d.bytes).site).countRx c)) := by
  rw [exec_deliveryDropped, State.telegram_of_closing hv hc, State.takeDelivery, State.acceptanceFault_advanceTo, ha]
  simp only [State.fate_advanceTo, hf]
  rfl

/-- A delivery that is handed on is no matter of this command (log entry 4). -/
theorem exec_deliveryDropped_of_handed (hv : s.vdd = true) (hc : (s.advanceTo t).closing rx = some d)
    (ha : s.acceptanceFault d = none) {g : Telegram}
    (hf : s.fate (Header.read d.bytes) d.body = .handed g) :
    exec (.deliveryDropped t rx) s = .next (s.advanceTo t) := by
  rw [exec_deliveryDropped, State.telegram_of_closing hv hc, State.takeDelivery, State.acceptanceFault_advanceTo, ha]
  simp only [State.fate_advanceTo, hf]
  rfl

end

end Sys2Proof.Machine

section
open Sys2Proof Sys2Proof.Machine

/-- Settles O3: the tests of the address match and of the kind, in their order, give the fate of the delivery. -/
theorem unmatchedDeliveryCounted : Obligations.UnmatchedDeliveryCounted := by
  intro s t rx d hv hc ha
  simp only
  have hcls := s.matchClass_eq (Header.read d.bytes)
  rw [← hcls]
  have hdrop : ∀ {c}, s.fate (Header.read d.bytes) d.body = .dropped c → _ :=
    fun hf => exec_deliveryDropped_of_dropped hv hc ha hf
  split
  next hnone => exact hdrop (by rw [State.fate, hnone])
  next cls hsome =>
    split
    next hkind =>
      refine hdrop ?_
      rw [State.fate, hsome]
      simp only [hkind]
    next k hkind =>
      have hfate := s.fate_of_kind d.body hsome hkind
      simp only [DownKind.fits_iff] at hfate
      split_ifs at hfate ⊢
      · exact hdrop hfate
      · exact hdrop hfate
      · exact hdrop hfate
      · exact exec_deliveryDropped_of_handed hv hc ha hfate

end
end

section
/-!
PROOFS. A byte from the air, and the delivery that is overdue before it (R1, R2).
-/

namespace Sys2Proof.Machine

section

variable {s s1 : State} {t : Stamp} {rx : List Byte}

theorem State.overdue_of_rx_none (h : s.air.rx = none) : s.overdue = none := by
  rw [State.overdue, h]
  rfl

theorem State.closeOverdue_of_not (h : (s.advanceTo t).overdue = none) : s.closeOverdue t = s := by
  rw [State.closeOverdue, h]

theorem State.closeOverdue_of_ptt (h : s.ptt = true) : s.closeOverdue t = s := by
  unfold State.closeOverdue
  split
  · rw [h, Bool.not_true, Bool.and_false, if_neg (by decide)]
  · rfl

theorem exec_arxdByteReceived (t : Stamp) (b : Byte) (s : State) :
    exec (.arxdByteReceived t b) s = .next ((s.closeOverdue t).event t fun s => s.airByte b) := rfl

/-- With no delivery overdue the byte is taken at the stamp of its command. -/
theorem exec_arxdByteReceived_of_not_overdue (hv : s.vdd = true) (h : s.closeOverdue t = s) (b : Byte) :
    exec (.arxdByteReceived t b) s = .next ((s.advanceTo t).airByte b) := by
  rw [exec_arxdByteReceived, h, State.event_of_vdd hv]

/-- A byte that finds no overdue delivery before it: opened or joined with its instant, and 104 bytes kept (R1). -/
theorem State.airByte_of_quiet (h : s.ptt = false) (b : Byte) :
    s.airByte b = s.setAir { s.air with rx := some ((s.air.rx.getD Delivery.empty).append [b] s.now) } := by
  rw [State.airByte, h, if_neg (by decide)]

/-! ## A delivery that closes by itself -/

/-- The instant at which a delivery overdue by `t` has closed is a stamp no later than `t`. -/
theorem State.now_at_close {d : Delivery} (h : d.closes ≤ (s.advanceTo t).now) :
    (BitVec.ofNat 48 d.closes).toNat = d.closes := by
  have hlt : (s.advanceTo t).now < 2 ^ 48 := (s.advanceTo t).ms.isLt
  rw [BitVec.toNat_ofNat]
  exact Nat.mod_eq_of_lt (by omega)

theorem State.closing_of_overdue {d : Delivery} (hp : s.ptt = false) (hd : s.overdue = some d) :
    s.closing [] = some d := by
  rw [State.closing, hp, if_neg (by decide), if_pos rfl, hd]

/-- A delivery is taken the same by any command by whose row its telegram goes, and by a dropping command when it
has none. -/
theorem State.takeDelivery_of_not_hears {d : Delivery} (hc : s.closing rx = some d)
    (h : ∀ g, ¬ s.hears rx g) (mine mine' : Telegram → Bool) (act : Telegram → State → State) :
    s.takeDelivery d mine act = s.takeDelivery d mine' act := by
  unfold State.takeDelivery
  split
  · rfl
  next ha =>
    simp only
    split
    · rfl
    next g hf => exact (h g ⟨d, hc, ha, hf⟩).elim

theorem State.telegram_nil (hv : s.vdd = true) (mine : Telegram → Bool) :
    s.telegram t [] mine = (s.advanceTo t).delivery [] mine State.handOver := by
  rw [State.telegram, State.beforeBytes, if_pos rfl, State.event_of_vdd hv]

theorem State.advanceTo_setCalen_self (s : State) (t : Stamp) : (s.advanceTo t).setCalen s.calen = s.advanceTo t := by
  unfold State.advanceTo
  split <;> rfl

/-- The command of a telegram's row takes it, with no byte more and CALEN as it is. -/
theorem exec_command_nil (hv : s.vdd = true) (g : Telegram) :
    ∃ mine : Telegram → Bool, mine g = true
      ∧ exec (g.command t s.calen) s = .next ((s.advanceTo t).delivery [] mine State.handOver) := by
  have hrow : ∀ mine : Telegram → Bool, mine g = true → exec (g.command t s.calen) s = .next (s.telegram t [] mine) →
      ∃ mine : Telegram → Bool, mine g = true
        ∧ exec (g.command t s.calen) s = .next ((s.advanceTo t).delivery [] mine State.handOver) :=
    fun mine hg he => ⟨mine, hg, he.trans (by rw [State.telegram_nil hv])⟩
  have hload : ∀ kind : DownKind, g.kind = kind → exec (g.command t s.calen) s =
      .next ((s.beforeBytes t []).event t fun q =>
        (q.setCalen s.calen).delivery [] (Telegram.isKind kind) State.handOver) →
      ∃ mine : Telegram → Bool, mine g = true
        ∧ exec (g.command t s.calen) s = .next ((s.advanceTo t).delivery [] mine State.handOver) := by
    refine fun kind hk he => ⟨Telegram.isKind kind, by simp [Telegram.isKind, hk], he.trans ?_⟩
    rw [State.beforeBytes, if_pos rfl, State.event_of_vdd hv, State.advanceTo_setCalen_self]
  obtain ⟨fleet, addressKind, address, site, kind, body, cls⟩ := g
  cases kind
  case loadOpen => exact hload _ rfl rfl
  case loadData => exact hload _ rfl rfl
  case loadCommit => exact hload _ rfl rfl
  case statusQuery =>
    simp only [Telegram.command] at hrow ⊢
    split at hrow
    next h => exact hrow (Telegram.isQuery 0) (by simp [Telegram.isQuery, h]) rfl
    next h => exact hrow (Telegram.isQuery 1) (by simp [Telegram.isQuery, h]) rfl
    next h => exact hrow (Telegram.isQuery 2) (by simp [Telegram.isQuery, h]) rfl
    next h0 h1 h2 =>
      have hcode : ∀ n : Nat, n ≠ 0 → n ≠ 1 → n ≠ 2 → n = 3 ∨ 3 < n := by omega
      refine hrow (Telegram.isQuery 3) ?_ rfl
      simpa [Telegram.isQuery] using hcode _ h0 h1 h2
  all_goals exact hrow (Telegram.isKind _) (by simp [Telegram.isKind]) rfl

/-- After a delivery has closed the receive buffer is free, and no act of its owner opens it (R1). -/
theorem State.takeDelivery_rx_none {d : Delivery} :
    (s.takeDelivery d (fun _ => true) State.handOver).air.rx = none := by
  have hclosed : ∀ q q' : State, q.air.rx = none → q.Moves False q' → q'.air.rx = none := by
    intro q q' hq hm
    rcases hm.rx with h | h
    · exact h.trans hq
    · exact h
  have hfound : ∀ site, (s.closeRx.linkReport site).air.rx = none := fun site =>
    hclosed _ _ rfl (State.linkReport_moves _ _)
  have hchoice : ∀ site q, q.air.rx = none → (s.afterReport site q).air.rx = none := by
    intro site q hq
    unfold State.afterReport
    split
    · exact hclosed _ _ hq (.radio q.choose_radioStep)
    · exact hq
  unfold State.takeDelivery
  split
  · rfl
  · simp only
    split
    · exact hchoice _ _ (hfound _)
    · rw [if_pos trivial]
      exact hchoice _ _ (hclosed _ _ (hfound _) (State.handOver_moves _ _))

/-- What every telegram command does: a delivery overdue before its bytes closes, the timer comes to its stamp and
CALEN to its level, and its delivery is taken by its row. No row of a kind the barred filter stops takes another
(R13, log entry 4). -/
theorem exec_telegram {i : Instr} (ht : i.stamp = some t) (hd : i.delivery = some rx) :
    ∃ mine : Telegram → Bool, (i.barFiltered = true → ∀ g, mine g = true → g.kind.passesBar = false)
      ∧ ∀ s, exec i s = .next ((s.beforeBytes t rx).event t fun q =>
        (q.setCalen (i.calenLevel.getD q.calen)).delivery rx mine State.handOver) := by
  have hkind : ∀ kind : DownKind, kind.passesBar = false →
      ∀ g, Telegram.isKind kind g = true → g.kind.passesBar = false := by
    intro kind hk g hg
    rw [Telegram.isKind, beq_iff_eq] at hg
    rw [hg, hk]
  cases i
  case loadOpen | loadData | loadCommit =>
    rename_i port
    cases port <;> cases hd
    cases ht
    exact ⟨Telegram.isKind _, fun _ => hkind _ rfl, fun _ => rfl⟩
  case deliveryDropped | siteBeacon | timeSet | message | emergencyAck | standDown | statusQueryIdentity
    | statusQueryVersions | statusQueryCounters | statusQuerySnapshot | reinstate =>
    cases hd
    cases ht
    exact ⟨_, nofun, fun _ => rfl⟩
  case offer | withdraw | award | assign | jobCancel | tripRecall | totalsQuery | bar | restart =>
    cases hd
    cases ht
    exact ⟨Telegram.isKind _, fun _ => hkind _ rfl, fun _ => rfl⟩
  all_goals cases hd

/-- The bytes of a telegram command come after a delivery that is overdue. -/
theorem exec_eq_of_beforeBytes {i : Instr} (ht : i.stamp = some t) (hd : i.delivery = some rx)
    (h : s.beforeBytes t rx = s1.beforeBytes t rx) : exec i s = exec i s1 := by
  obtain ⟨mine, -, hexec⟩ := exec_telegram ht hd
  rw [hexec, hexec, h]

end

end Sys2Proof.Machine

section
open Sys2Proof Sys2Proof.Machine

/-- Settles O1: while PTT is released a byte opens a delivery or joins it; one that finds the delivery overdue finds
it closed, at the end of its 5 ms, as the command of its row would close it. -/
theorem airByteGathered : Obligations.AirByteGathered := by
  intro s t b hv
  have hnow : ∀ q : State, (q.advanceTo t).ptt = q.ptt := fun q => by
    rw [State.ptt, State.ptt, State.advanceTo_uls]
  refine ⟨fun hp => ?_, fun hp hr => ?_, fun d hp hd => ⟨fun hgap => ?_, fun hgap => ?_⟩⟩
  · rw [exec_arxdByteReceived_of_not_overdue hv (State.closeOverdue_of_ptt hp), State.airByte, hnow, if_pos hp]
  · have hno : (s.advanceTo t).overdue = none := State.overdue_of_rx_none (by rw [State.advanceTo_air, hr])
    rw [exec_arxdByteReceived_of_not_overdue hv (State.closeOverdue_of_not hno),
      State.airByte_of_quiet ((hnow s).trans hp), State.advanceTo_air, hr]
    rfl
  · have hno : (s.advanceTo t).overdue = none := by
      rw [State.overdue, State.advanceTo_air, hd, Option.filter_some, if_neg]
      simp only [State.reached, decide_eq_true_eq, not_le]
      exact hgap
    have hbyte : ∀ bytes : List Byte, (d.bytes ++ [b]).take 104 = bytes → exec (.arxdByteReceived t b) s =
        .next ((s.advanceTo t).setAir
          { s.air with rx := some { bytes := bytes, size := d.size + 1, last := (s.advanceTo t).now } }) := by
      rintro bytes rfl
      rw [exec_arxdByteReceived_of_not_overdue hv (State.closeOverdue_of_not hno),
        State.airByte_of_quiet ((hnow s).trans hp), State.advanceTo_air, hd]
      rfl
    refine ⟨fun hlen => hbyte _ (List.take_of_length_le ?_), fun hlen => hbyte _ ?_⟩
    · rw [List.length_append, List.length_singleton]
      omega
    · rw [← hlen, List.take_left]
  · have hcloses : d.closes = d.last + 5 := rfl
    rw [← hcloses] at hgap ⊢
    have hu := State.now_at_close hgap
    set u : Stamp := BitVec.ofNat 48 d.closes with hudef
    have hover : (s.advanceTo t).overdue = some d := by
      rw [State.overdue, State.advanceTo_air, hd, Option.filter_some, if_pos]
      simpa [State.reached] using hgap
    have hover' : (s.advanceTo u).overdue = some d := by
      rw [State.overdue, State.advanceTo_air, hd, Option.filter_some, if_pos]
      simp only [State.reached, State.advanceTo_now, hu, decide_eq_true_eq]
      omega
    have hp' : (s.advanceTo u).ptt = false := by rw [State.ptt, State.advanceTo_uls]; exact hp
    have hclosing := State.closing_of_overdue hp' hover'
    have hs1 : s.closeOverdue t = (s.advanceTo u).takeDelivery d (fun _ => true) State.handOver := by
      rw [State.closeOverdue, hover]
      simp only [hv, hp, Bool.not_false, Bool.and_true, if_true, hudef]
    refine ⟨s.closeOverdue t, ?_, fun hno => ?_, fun g hg => ?_, ?_, fun i rx ht hdel hne => ?_⟩
    · rw [hs1]
      exact State.takeDelivery_rx_none
    · rw [exec_deliveryDropped, State.telegram_nil hv, State.delivery, hclosing, hs1]
      exact congrArg Host.Outcome.next (State.takeDelivery_of_not_hears hclosing hno _ _ _)
    · obtain ⟨mine, hmine, hexec⟩ := exec_command_nil hv g (t := u)
      obtain ⟨d', hc, ha, hf⟩ := hg
      rw [hclosing] at hc
      cases hc
      rw [hexec, State.delivery, hclosing, hs1]
      simp only [State.takeDelivery, ha, hf, hmine, if_true]
    · have hnone : ((s.closeOverdue t).advanceTo t).overdue = none :=
        State.overdue_of_rx_none (by rw [State.advanceTo_air, hs1]; exact State.takeDelivery_rx_none)
      rw [exec_arxdByteReceived, exec_arxdByteReceived, State.closeOverdue_of_not hnone]
    · have hnone : ((s.closeOverdue t).advanceTo t).overdue = none :=
        State.overdue_of_rx_none (by rw [State.advanceTo_air, hs1]; exact State.takeDelivery_rx_none)
      refine exec_eq_of_beforeBytes ht hdel ?_
      rw [State.beforeBytes, State.beforeBytes, if_neg hne, if_neg hne, State.closeOverdue_of_not hnone]

end
end

section
/-!
PROOFS. Telegrams that reach no owner: without an address record, and barred for a filtered kind (R6, R13).
-/

namespace Sys2Proof.Machine

section

variable {s : State} {t : Stamp} {rx : List Byte}

/-- With no address record in force every delivery fails an acceptance test (R6). -/
theorem State.acceptanceFault_of_no_address (h : s.dcu.address = none) (d : Delivery) :
    ∃ c, s.acceptanceFault d = some c := by
  unfold State.acceptanceFault
  simp only
  split_ifs with _ _ _ _ hfleet
  · exact ⟨_, rfl⟩
  · exact ⟨_, rfl⟩
  · exact ⟨_, rfl⟩
  · exact ⟨_, rfl⟩
  · exact ⟨_, rfl⟩
  · exact (hfleet (.inl h)).elim

theorem State.takeDelivery_of_no_address (h : s.dcu.address = none) (d : Delivery) (mine : Telegram → Bool) :
    ∃ a, s.takeDelivery d mine State.handOver = s.setAir a := by
  obtain ⟨c, hc⟩ := s.acceptanceFault_of_no_address h d
  exact ⟨_, State.takeDelivery_of_fault hc _ _⟩

theorem State.delivery_of_no_address (h : s.dcu.address = none) (rx : List Byte) (mine : Telegram → Bool) :
    ∃ a, s.delivery rx mine State.handOver = s.setAir a := by
  unfold State.delivery
  split
  · exact s.takeDelivery_of_no_address h _ _
  · exact ⟨s.air, rfl⟩

/-- A timer that has come to an instant before the stamp comes to the stamp as it would have. -/
theorem State.advanceTo_advanceTo {u : Stamp} (h : u.toNat ≤ (s.advanceTo t).now) :
    (s.advanceTo u).advanceTo t = s.advanceTo t := by
  rw [State.advanceTo_now] at h
  have hlt : ∀ a b : Stamp, a < b ↔ a.toNat < b.toNat := fun _ _ => BitVec.lt_def
  have hnow : s.now = s.ms.toNat := rfl
  unfold State.advanceTo
  by_cases hu : s.ms < u
  · rw [if_pos hu]
    have hu' := (hlt _ _).mp hu
    by_cases ht : u < t
    · have : s.ms < t := (hlt _ _).mpr (by have := (hlt _ _).mp ht; omega)
      rw [if_pos this, State.setMs_ms, if_pos ht]
      rfl
    · have heq : u = t := BitVec.eq_of_toNat_eq (by have := mt (hlt _ _).mpr ht; omega)
      rw [State.setMs_ms, if_neg ht, ← heq, if_pos hu]
  · rw [if_neg hu]

theorem State.advanceTo_setAir (s : State) (t : Stamp) (a : Air) :
    (s.setAir a).advanceTo t = (s.advanceTo t).setAir a := by
  by_cases h : s.ms < t
  · simp only [State.advanceTo, State.setAir_ms, h, if_true]
    rfl
  · simp only [State.advanceTo, State.setAir_ms, h, if_false]

/-- With no address record what closes before the bytes changes the receive buffer and its counters alone. -/
theorem State.beforeBytes_of_no_address (h : s.dcu.address = none) (t : Stamp) (rx : List Byte) :
    ∃ a, (s.beforeBytes t rx).advanceTo t = (s.advanceTo t).setAir a ∧ (s.beforeBytes t rx).vdd = s.vdd := by
  have hself : ∃ a, s.advanceTo t = (s.advanceTo t).setAir a ∧ s.vdd = s.vdd := ⟨(s.advanceTo t).air, rfl, rfl⟩
  unfold State.beforeBytes
  split
  · exact hself
  · unfold State.closeOverdue
    split
    next d hd =>
      split
      · have hcloses : d.closes ≤ (s.advanceTo t).now := by
          simpa [State.reached] using (Option.filter_eq_some_iff.mp hd).2
        obtain ⟨a, ha⟩ := (s.advanceTo (BitVec.ofNat 48 d.closes)).takeDelivery_of_no_address
          (by rw [State.advanceTo_dcu, h]) d fun _ => true
        refine ⟨a, ?_, ?_⟩
        · rw [ha, State.advanceTo_setAir, State.advanceTo_advanceTo (by rw [State.now_at_close hcloses]; exact hcloses)]
        · rw [ha, State.setAir_vdd, State.advanceTo_vdd]
      · exact hself
    next => exact hself

/-- The choice that may follow a report touches the scheduler, the link and the receive buffer. -/
theorem State.afterReport_eq (s : State) (site : Nat) (q : State) :
    ∃ a l u, s.afterReport site q = { q with air := a, link := l, uls := u } := by
  unfold State.afterReport
  split
  · exact ⟨_, _, _, q.choose_radioWork⟩
  · exact ⟨q.air, q.link, q.uls, rfl⟩

/-- While the cab is barred a row whose kinds the filter stops takes no telegram (R13). -/
theorem State.takeDelivery_of_barred (hb : s.dcu.barred = true) {mine : Telegram → Bool}
    (hm : ∀ g, mine g = true → g.kind.passesBar = false) (d : Delivery) :
    ∃ a l u c, s.takeDelivery d mine State.handOver = { s with air := a, link := l, uls := u, cab := c } := by
  have hhanded : ∀ h body g, s.fate h body = .handed g → ¬ mine g = true := by
    intro h body g hf hg
    unfold State.fate at hf
    split at hf
    · cases hf
    · split at hf
      · cases hf
      · split_ifs at hf with _ _ hpass
        cases hf
        exact hpass ⟨hb, hm _ hg⟩
  unfold State.takeDelivery
  split
  · exact ⟨_, s.link, s.uls, s.cab, rfl⟩
  · simp only
    split
    · obtain ⟨a, l, u, h⟩ := s.afterReport_eq (Header.read d.bytes).site
        ((s.closeRx.linkReport (Header.read d.bytes).site).countRx _)
      rw [h, State.linkReport_eq]
      exact ⟨_, _, _, _, rfl⟩
    next g hf =>
      rw [if_neg (hhanded _ _ g hf)]
      exact ⟨s.air, s.link, s.uls, s.cab, rfl⟩

end

end Sys2Proof.Machine

section
open Sys2Proof Sys2Proof.Machine

/-- Settles O4: with no address record each delivery fails the fleet test at the latest; barred, no row of a stopped
kind is handed a telegram. -/
theorem closedEarsHearNothing : Obligations.ClosedEarsHearNothing := by
  refine ⟨fun i s t rx hv ht hd haddr => ?_, fun i s t hv ht hfilter hbarred hquiet => ?_⟩
  · obtain ⟨mine, -, hexec⟩ := exec_telegram ht hd
    obtain ⟨a, hbefore, hvdd⟩ := s.beforeBytes_of_no_address haddr t rx
    obtain ⟨a', h⟩ := (((s.advanceTo t).setAir a).setCalen (i.calenLevel.getD s.calen)).delivery_of_no_address
      (by rw [State.setCalen_dcu, State.setAir_dcu, State.advanceTo_dcu, haddr]) rx mine
    refine ⟨a', ?_⟩
    rw [hexec, State.event_of_vdd (hvdd.trans hv), hbefore, State.setAir_calen, State.advanceTo_calen, h]
    rfl
  · have hdelivery : ∃ rx, i.delivery = some rx ∧ s.beforeBytes t rx = s := by
      have hbytes : ∀ rx, i.delivery = some rx → s.beforeBytes t rx = s := by
        intro rx hd
        rcases hquiet with hgap | hnil
        · unfold State.beforeBytes
          split
          · rfl
          · refine State.closeOverdue_of_not ?_
            rw [State.overdue, State.advanceTo_air, Option.filter_eq_none_iff]
            intro d hd
            simp only [State.reached, decide_eq_true_eq, not_le]
            exact hgap d hd
        · rw [hd] at hnil
          cases hnil
          exact if_pos rfl
      cases i
      case offer | withdraw | award | assign | jobCancel | tripRecall | totalsQuery | bar | restart =>
        exact ⟨_, rfl, hbytes _ rfl⟩
      case loadOpen | loadData | loadCommit =>
        rename_i port
        cases port <;> cases hfilter
        exact ⟨_, rfl, hbytes _ rfl⟩
      all_goals cases hfilter
    obtain ⟨rx, hd, hbefore⟩ := hdelivery
    obtain ⟨mine, hmine, hexec⟩ := exec_telegram ht hd
    set q := (s.advanceTo t).setCalen (i.calenLevel.getD s.calen) with hq
    have hqb : q.dcu.barred = true := by rw [hq, State.setCalen_dcu, State.advanceTo_dcu, hbarred]
    have htaken : ∃ a l u c, q.delivery rx mine State.handOver = { q with air := a, link := l, uls := u, cab := c } := by
      unfold State.delivery
      split
      · exact q.takeDelivery_of_barred hqb (hmine hfilter) _
      · exact ⟨q.air, q.link, q.uls, q.cab, rfl⟩
    obtain ⟨a, l, u, c, h⟩ := htaken
    refine ⟨a, l, u, c, ?_⟩
    rw [hexec, hbefore, State.event_of_vdd hv, State.advanceTo_calen, ← hq, h]
    rfl

end
end

section
/-!
PROOFS. A telegram's bytes, and channel hunting (chapters 1 and 2).
-/

namespace Sys2Proof.Machine

/-! ## The bytes of a telegram (section 13.1) -/

theorem nat_be_two {n : Nat} (h : n < 65536) : nat (be 2 n) = n := by
  simp only [be, nat, List.foldl_cons, List.foldl_nil, BitVec.toNat_ofNat]
  omega

theorem Header.read_write {h : Header} (rest : List Byte) (hf : h.fleet < 4096) (hk : h.addressKind < 4)
    (ha : h.address < 4096) (hs : h.site < 16) (hkind : h.kind < 256) (hl : h.length < 256) :
    Header.read (h.write ++ rest) = h := by
  obtain ⟨fleet, addressKind, uplink, address, site, kind, length⟩ := h
  simp only at hf hk ha hs hkind hl
  simp only [Header.read, Header.write, byteAt, List.cons_append, List.drop_succ_cons, List.drop_zero,
    List.headD_cons, BitVec.toNat_ofNat, Header.mk.injEq]
  cases uplink
  · simp only [bitFlag, Bool.false_eq_true, if_false, decide_eq_false_iff_not]
    omega
  · simp only [bitFlag, if_true, decide_eq_true_eq]
    omega

theorem Header.write_length (h : Header) : h.write.length = 6 := rfl

theorem telegramBytes_eq (h : Header) (body : List Byte) :
    telegramBytes h body = (({ h with length := body.length } : Header).write ++ body)
      ++ be 2 (crc (({ h with length := body.length } : Header).write ++ body)).toNat := rfl

end Sys2Proof.Machine

section
open Sys2Proof Sys2Proof.Machine

/-- Settles O5: the header is read back field by field, and the last two bytes are the CRC of the rest. -/
theorem telegramRoundTrip : Obligations.TelegramRoundTrip := by
  intro h body last hf hk ha hs hkind hbody
  simp only
  set front := ({ h with length := body.length } : Header).write ++ body with hfront
  have hbytes : telegramBytes h body = front ++ be 2 (crc front).toNat := telegramBytes_eq h body
  have hlen : front.length = body.length + 6 := by rw [hfront, List.length_append, Header.write_length, Nat.add_comm]
  have hsize : (telegramBytes h body).length = body.length + 8 := by
    rw [hbytes, List.length_append, hlen]
    rfl
  have hchecked : ∀ last, (Delivery.mk (telegramBytes h body) (telegramBytes h body).length last).checked = front := by
    intro last
    rw [Delivery.checked, hsize, hbytes]
    exact List.take_left' hlen
  refine ⟨hsize, ?_, ?_, ?_⟩
  · rw [hbytes, hfront, List.append_assoc]
    exact Header.read_write _ hf hk ha hs hkind (by simp only; omega)
  · rw [Delivery.body, hchecked]
    exact List.drop_left' rfl
  · have hcarried : natAt (front ++ be 2 (crc front).toNat) (body.length + 6) 2 = (crc front).toNat := by
      rw [natAt, List.drop_left' hlen]
      exact nat_be_two (crc front).isLt
    rw [hchecked, Delivery.carried, hsize, hbytes]
    exact hcarried.symm

end
end

section
/-!
PROOFS. Channel hunting (chapter 2).
-/

namespace Sys2Proof.Machine

theorem exec_of_event {i : Instr} {s : State} {t : Stamp} {f : State → State} (hv : s.vdd = true)
    (h : exec i s = .next (s.event t f)) : exec i s = .next (f (s.advanceTo t)) := by
  rw [h, State.event_of_vdd hv]

theorem State.channels_advanceTo (s : State) (t : Stamp) : (s.advanceTo t).channels = s.channels := by
  rw [State.channels, State.channels, State.advanceTo_dcu]

/-! ## Hunting on (R20, R23) -/

theorem State.enterHunting_eq (s : State) (entry : Nat) :
    s.enterHunting entry = s.setLink (s.huntsAt entry s.link.huntPasses) := by
  have hptt : ∀ l, (s.setLink l).ptt = s.ptt := fun _ => rfl
  unfold State.enterHunting State.huntsAt
  simp only [hptt]
  cases s.ptt
  · simp only [Bool.false_eq_true, if_false]
    rfl
  · simp only [if_true]

theorem State.advanceHunt_eq (s : State) : s.advanceHunt = s.setLink s.huntsOn := by
  unfold State.advanceHunt State.huntsOn State.nextEntry
  split
  · rw [State.enterHunting_eq]
  · rw [State.enterHunting_eq]
    rfl

theorem State.endAccess_eq (s : State) : ∃ u, s.endAccess = s.setUls u := by
  unfold State.endAccess
  split
  · exact ⟨_, rfl⟩
  · exact ⟨_, rfl⟩
  · exact ⟨s.uls, rfl⟩

theorem State.endAccess_link (s : State) : s.endAccess.link = s.link := by
  obtain ⟨u, h⟩ := s.endAccess_eq
  rw [h, State.setUls_link]

theorem State.endAccess_channels (s : State) : s.endAccess.channels = s.channels := by
  obtain ⟨u, h⟩ := s.endAccess_eq
  rw [h]
  rfl

/-- Leaving LOCKED: the access ends, the notice is raised, and the hunt goes on from the entry that was locked. -/
theorem State.unlock_eq (s : State) :
    s.unlock = (s.leaveLocked.linkNotice .unlocked).setLink s.leaveLocked.huntsOn := by
  obtain ⟨c, -, h⟩ := s.leaveLocked.raise_eq .link LinkCause.unlocked.code
    (s.leaveLocked.linkSummary s.leaveLocked.currentChannel)
  have hnotice : s.leaveLocked.linkNotice .unlocked = s.leaveLocked.setCab c := h
  rw [State.unlock, hnotice, State.advanceHunt_eq]
  rfl

/-- The LINK notice of a lost lock shows HUNTING and the entry that was locked (R29, log entry 11). -/
theorem State.leaveLocked_notice (s : State) :
    s.leaveLocked.linkNotice .unlocked =
      s.leaveLocked.raise .link 1
        (be 1 1 ++ optional 1 ((s.channels[s.link.entry]?).map (fun _ => s.link.entry))
          ++ optional 2 ((s.channels[s.link.entry]?).map (fun c => c.number))
          ++ optional 1 ((s.channels[s.link.entry]?).map (fun c => c.role.code)) ++ [0, 0]) := by
  have hentry : s.leaveLocked.link.entry = s.link.entry := by
    rw [State.leaveLocked, State.setLink_link, s.endAccess_link]
  have hmode : s.leaveLocked.link.mode = .hunting := rfl
  have hchannel : s.leaveLocked.currentChannel = s.channels[s.link.entry]? := by
    have hchannels : s.leaveLocked.channels = s.channels := s.endAccess_channels
    rw [State.currentChannel, hmode, if_neg nofun, hentry, hchannels]
  unfold State.linkNotice State.linkNoticeOf State.linkSummary
  rw [hchannel, hentry, hmode, if_neg nofun]
  rfl

/-! ## Expiries (R21, R23, R24) -/

section

variable {s : State} {t : Stamp} {deadline : Nat}

theorem exec_settleExpiry (t : Stamp) (s : State) :
    exec (.settleExpiry t) s = .next (s.event t State.settleExpiry) := rfl

theorem exec_dwellExpiry (t : Stamp) (s : State) :
    exec (.dwellExpiry t) s = .next (s.event t State.dwellExpiry) := rfl

theorem exec_silenceExpiry (t : Stamp) (s : State) :
    exec (.silenceExpiry t) s = .next (s.event t State.silenceExpiry) := rfl

theorem State.reached_iff : s.reached deadline = true ↔ deadline ≤ s.now := by
  rw [State.reached, decide_eq_true_iff]

end

/-! ## The report of an accepted telegram (R22) -/

theorem Channel.expects_iff {c : Channel} {site : Nat} :
    c.expects site = true ↔ c.site = none ∨ c.site = some site := by
  unfold Channel.expects
  cases c.site with
  | none => simp
  | some expected => simp

theorem State.expectsSite_of_channel {s : State} {c : Channel} (h : s.channels[s.link.entry]? = some c) (site : Nat) :
    s.expectsSite site = c.expects site := by
  rw [State.expectsSite, h]

theorem State.locksOn_iff {s : State} {site : Nat} :
    s.locksOn site = true
      ↔ s.link.mode = .hunting ∧ s.link.phase = .dwelling ∧ s.expectsSite site = true := by
  rw [State.locksOn, Bool.and_eq_true, Bool.and_eq_true, beq_iff_eq, beq_iff_eq, and_assoc]

theorem State.linkReport_of_settling {s : State} (hm : s.link.mode = .hunting) (hp : s.link.phase = .settling)
    (site : Nat) : s.linkReport site = s := by
  unfold State.linkReport
  rw [hm]
  simp only [hp]

theorem State.linkReport_of_dwelling {s : State} (hm : s.link.mode = .hunting) (hp : s.link.phase = .dwelling)
    (site : Nat) :
    s.linkReport site =
      if s.expectsSite site then s.lock site
      else s.setLink { s.link with siteMismatches := countUp s.link.siteMismatches } := by
  unfold State.linkReport
  rw [hm]
  simp only [hp]

/-- No report but one that locks the link is followed by a choice (R41). -/
theorem State.afterReport_of_elsewhere {s : State} (h : s.link.mode ≠ .hunting ∨ s.link.phase ≠ .dwelling)
    (site : Nat) (q : State) : s.afterReport site q = q := by
  refine State.afterReport_of_not (Bool.eq_false_of_not_eq_true fun hl => ?_) q
  obtain ⟨hm, hp, -⟩ := State.locksOn_iff.mp hl
  exact h.elim (fun h => h hm) fun h => h hp

/-! ## The SITE BEACON (R26) -/

theorem natAt_one (body : List Byte) (offset : Nat) : natAt body offset 1 = (byteAt body offset).toNat := by
  unfold natAt byteAt
  cases body.drop offset with
  | nil => rfl
  | cons b rest => simp [nat]

theorem exec_siteBeacon (t : Stamp) (rx : List Byte) (s : State) :
    exec (.siteBeacon t rx) s = .next (s.telegram t rx (Telegram.isKind .siteBeacon)) := rfl

theorem Telegram.isKind_of {g : Telegram} {kind : DownKind} (h : g.kind = kind) : Telegram.isKind kind g = true := by
  rw [Telegram.isKind, beq_iff_eq, h]

/-- While PTT is asserted no delivery closes (R2). -/
theorem State.ptt_of_hears {s : State} {rx : List Byte} {g : Telegram} (h : s.hears rx g) : s.ptt = false := by
  obtain ⟨d, hc, -⟩ := h
  unfold State.closing at hc
  split at hc
  · cases hc
  next hp => exact Bool.eq_false_of_not_eq_true hp

theorem State.ptt_of_uls {s q : State} (h : q.uls = s.uls) : q.ptt = s.ptt := by
  rw [State.ptt, State.ptt, h]

theorem State.linkReport_uls (s : State) (site : Nat) : (s.linkReport site).uls = s.uls := by
  rw [State.linkReport_eq]

/-- An access that ends does not assert PTT. -/
theorem State.endAccess_ptt {s : State} (h : s.ptt = false) : s.endAccess.ptt = false := by
  unfold State.endAccess
  split
  · rfl
  · rfl
  · exact h

theorem State.huntsAt_mode (s : State) (entry passes : Nat) : (s.huntsAt entry passes).mode = .hunting := by
  unfold State.huntsAt
  simp only
  split <;> rfl

theorem State.huntsOn_mode (s : State) : s.huntsOn.mode = .hunting := by
  unfold State.huntsOn
  split <;> exact s.huntsAt_mode _ _

theorem State.huntsOn_tunePending {s : State} (h : s.ptt = false) : s.huntsOn.tunePending = false := by
  have hat : ∀ entry passes, (s.huntsAt entry passes).tunePending = false := by
    intro entry passes
    rw [State.huntsAt, h]
    rfl
  unfold State.huntsOn
  split <;> exact hat _ _

end Sys2Proof.Machine

section
open Sys2Proof Sys2Proof.Machine

/-- Settles O6: by the settle deadline, and by the phase for a report. -/
theorem settleExpiryStartsDwell : Obligations.SettleExpiryStartsDwell := by
  intro s t deadline hv hm hd
  have hcond : (s.advanceTo t).link.mode = .hunting
      ∧ (s.advanceTo t).timerReached (s.advanceTo t).link.settle = true ↔ deadline ≤ (s.advanceTo t).now := by
    rw [State.advanceTo_link, hd, State.timerReached, State.reached_iff, and_iff_right hm]
  refine ⟨fun h => ?_, fun h => ?_, fun site hp => State.linkReport_of_settling hm hp site⟩
  · rw [exec_of_event hv (exec_settleExpiry t s), State.settleExpiry, if_pos (hcond.mpr h), State.advanceTo_link,
      State.op_advanceTo]
    rfl
  · rw [exec_of_event hv (exec_settleExpiry t s), State.settleExpiry,
      if_neg (fun hr => absurd (hcond.mp hr) (Nat.not_le_of_lt h))]

/-- Settles O7: by the link state and phase, and by what the current entry expects. -/
theorem reportMovesLink : Obligations.ReportMovesLink := by
  intro s site
  refine ⟨fun hm => ?_, fun hm hp => State.linkReport_of_settling hm hp site, fun hm => ?_,
    fun c hm hp hc => ⟨fun hs => ?_, fun hne hs => ?_, fun q => ?_⟩,
    fun h q => State.afterReport_of_elsewhere h site q⟩
  · rw [State.linkReport, hm]
  · rw [State.linkReport, hm]
    rfl
  · rw [State.linkReport_of_dwelling hm hp, State.expectsSite_of_channel hc, if_pos (Channel.expects_iff.mpr hs)]
    rfl
  · rw [State.linkReport_of_dwelling hm hp, State.expectsSite_of_channel hc,
      if_neg (fun he => (Channel.expects_iff.mp he).elim hne hs)]
    rfl
  · unfold State.afterReport
    by_cases hs : c.site = none ∨ c.site = some site
    · have hl : s.locksOn site = true := State.locksOn_iff.mpr
        ⟨hm, hp, (State.expectsSite_of_channel hc site).trans (Channel.expects_iff.mpr hs)⟩
      rw [if_pos hl, if_pos hs]
    · have hl : ¬ s.locksOn site = true := fun hl => hs (Channel.expects_iff.mp
        ((State.expectsSite_of_channel hc site).symm.trans (State.locksOn_iff.mp hl).2.2))
      rw [if_neg hl, if_neg hs]

/-- Settles O8: at its deadline each timer makes the hunt advance; the silence timer's expiry first leaves LOCKED. -/
theorem expiryAdvancesHunt : Obligations.ExpiryAdvancesHunt := by
  intro s t deadline hv
  refine ⟨fun hm hd => ?_, fun hm hd => ?_⟩
  · have hcond : (s.advanceTo t).link.mode = .hunting
        ∧ (s.advanceTo t).timerReached (s.advanceTo t).link.dwell = true ↔ deadline ≤ (s.advanceTo t).now := by
      rw [State.advanceTo_link, hd, State.timerReached, State.reached_iff, and_iff_right hm]
    refine ⟨fun h => ?_, fun h => ?_⟩
    · rw [exec_of_event hv (exec_dwellExpiry t s), State.dwellExpiry, if_pos (hcond.mpr h), State.advanceHunt_eq]
    · rw [exec_of_event hv (exec_dwellExpiry t s), State.dwellExpiry,
        if_neg (fun hr => absurd (hcond.mp hr) (Nat.not_le_of_lt h))]
  · have hcond : (s.advanceTo t).link.mode = .locked ∧ (s.advanceTo t).silenceReached = true
        ↔ deadline ≤ (s.advanceTo t).now := by
      rw [State.silenceReached, State.advanceTo_link, hd, and_iff_right hm]
      exact State.reached_iff
    refine ⟨fun h => ?_, fun h => ?_⟩
    · rw [exec_of_event hv (exec_silenceExpiry t s), State.silenceExpiry, if_pos (hcond.mpr h), State.unlock_eq,
        State.leaveLocked_notice, State.channels_advanceTo, State.advanceTo_link]
      rfl
    · rw [exec_of_event hv (exec_silenceExpiry t s), State.silenceExpiry,
        if_neg (fun hr => absurd (hcond.mp hr) (Nat.not_le_of_lt h))]

/-- Settles O9: only a CLOSING beacon of the locked site unlocks the link, and no choice follows it. -/
theorem closingSiteIsLeft : Obligations.ClosingSiteIsLeft := by
  intro s t rx g hv hg hkind
  have hstatus : natAt g.body 0 1 = 1 ↔ byteAt g.body 0 = 1 := by
    rw [natAt_one]
    exact BitVec.toNat_inj (y := (1 : Byte))
  have hexec : exec (.siteBeacon t rx) s = .next ((s.advanceTo t).afterReport g.site
      (((s.advanceTo t).found g.site).takeSiteBeacon g.site (natAt g.body 0 1))) := by
    rw [exec_siteBeacon, State.telegram_of_hears hv hg (Telegram.isKind_of hkind), State.handOver, hkind]
  have hptt : ((s.advanceTo t).found g.site).endAccess.ptt = false := by
    refine State.endAccess_ptt ?_
    have huls : ((s.advanceTo t).found g.site).uls = (s.advanceTo t).uls := State.linkReport_uls _ _
    rw [State.ptt_of_uls huls]
    exact State.ptt_of_hears hg
  refine ⟨fun ⟨hclosing, hm, hs⟩ => ⟨?_, State.huntsOn_tunePending hptt⟩, fun h => ?_⟩
  · have hleft : ∀ q : State, q.link.mode = .hunting → (s.advanceTo t).afterReport g.site q = q := by
      intro q hq
      unfold State.afterReport
      split
      · exact State.choose_of_not fun h => by
          rw [hq] at h
          cases h.2
      · rfl
    rw [hexec, State.takeSiteBeacon, if_pos ⟨hstatus.mpr hclosing, hm, hs⟩, State.unlock_eq,
      hleft _ (State.huntsOn_mode _)]
    rfl
  · rw [hexec, State.takeSiteBeacon, if_neg fun hc => ?_]
    obtain ⟨hc1, hc2, hc3⟩ := hc
    rcases h with h | h | h
    · exact h (hstatus.mp hc1)
    · exact h hc2
    · exact h hc3

end
end

section
/-!
PROOFS. The queue of uplinks as a list, the air time, and the choice (chapter 3).
-/

namespace Sys2Proof.Machine

/-! ## The queue as a list -/

section

variable {test : Entry → Bool} {front back : List Entry} {e : Entry}

theorem markFirst_of_split (hf : ∀ x ∈ front, test x = false) (he : test e = true) (mark : EntryMark) :
    markFirst test mark (front ++ e :: back) = front ++ { e with mark := mark } :: back := by
  induction front with
  | nil => simp [markFirst, he]
  | cons x rest ih =>
    obtain ⟨hx, hrest⟩ := List.forall_mem_cons.mp hf
    simp [markFirst, hx, ih hrest]

theorem markFirst_of_none {queue : List Entry} (h : ∀ x ∈ queue, test x = false) (mark : EntryMark) :
    markFirst test mark queue = queue := by
  induction queue with
  | nil => rfl
  | cons x rest ih =>
    obtain ⟨hx, hrest⟩ := List.forall_mem_cons.mp h
    simp [markFirst, hx, ih hrest]

theorem find?_of_split (hf : ∀ x ∈ front, test x = false) (he : test e = true) :
    (front ++ e :: back).find? test = some e :=
  List.find?_eq_some_iff_append.mpr ⟨he, front, back, rfl, fun x hx => by simp [hf x hx]⟩

theorem filter_of_split (hf : ∀ x ∈ front ++ back, test x = false) (he : test e = true) :
    (front ++ e :: back).filter (fun x => !test x) = front ++ back := by
  have hkeep : ∀ l : List Entry, (∀ x ∈ l, x ∈ front ++ back) → l.filter (fun x => !test x) = l := fun l hl =>
    List.filter_eq_self.mpr fun x hx => by simp [hf x (hl x hx)]
  rw [List.filter_append, List.filter_cons_of_neg (by simp [he]),
    hkeep front fun x hx => List.mem_append_left _ hx, hkeep back fun x hx => List.mem_append_right _ hx]

theorem eraseP_of_split (hf : ∀ x ∈ front, test x = false) (he : test e = true) :
    (front ++ e :: back).eraseP test = front ++ back := by
  rw [List.eraseP_append_right _ fun x hx => by simp [hf x hx], List.eraseP_cons_of_pos he]

end

theorem markAt_eq_modify (mark : EntryMark) (queue : List Entry) (index : Nat) :
    markAt mark queue index = queue.modify index (fun e => { e with mark := mark }) := by
  induction queue generalizing index with
  | nil => cases index <;> rfl
  | cons e rest ih =>
    cases index with
    | zero => rfl
    | succ n => simp [markAt, ih]

theorem Entry.isCandidate_iff {e : Entry} : e.isCandidate = true ↔ e.mark = .candidate := by
  rw [Entry.isCandidate, beq_iff_eq]

theorem Entry.isCandidate_eq_false {e : Entry} : e.isCandidate = false ↔ e.mark ≠ .candidate := by
  rw [← Bool.not_eq_true, Entry.isCandidate_iff]

theorem Entry.isOnAir_iff {e : Entry} : e.isOnAir = true ↔ e.mark = .onAir := by
  rw [Entry.isOnAir, beq_iff_eq]

theorem Entry.isOnAir_eq_false {e : Entry} : e.isOnAir = false ↔ e.mark ≠ .onAir := by
  rw [← Bool.not_eq_true, Entry.isOnAir_iff]

/-! ## Air time (R51) -/

/-- A rounded-up quotient is the least whole number of divisors that covers the dividend. -/
theorem ceilDiv_bounds {rate : Nat} (bits : Nat) (h : 0 < rate) :
    bits ≤ (bits + (rate - 1)) / rate * rate ∧ (bits + (rate - 1)) / rate * rate < bits + rate := by
  have hdiv := Nat.div_add_mod (bits + (rate - 1)) rate
  have hmod := Nat.mod_lt (bits + (rate - 1)) h
  rw [Nat.mul_comm] at hdiv
  omega

@[simp] theorem be_length (width n : Nat) : (be width n).length = width := by
  induction width with
  | zero => rfl
  | succ width ih => rw [be, List.length_cons, ih]

theorem tripReportBody_length (r : TripRecord) : (tripReportBody r).length = Config.tripReportBytes := by
  simp [tripReportBody, stampBytes, Config.tripReportBytes]

theorem beaconBody_length (s : State) : (beaconBody s).length = Config.beaconBytes := by
  simp [beaconBody, Config.beaconBytes]

theorem State.queueItems_air (s : State) {queue : List Entry} {start : Nat} {i : Item}
    (h : i ∈ s.queueItems start queue) :
    ∃ k e, i.pick = .entry (start + k) ∧ queue[k]? = some e ∧ i.air = s.airTime e.body.length := by
  induction queue generalizing start with
  | nil => cases h
  | cons e rest ih =>
    have hlater : i ∈ s.queueItems (start + 1) rest → ∃ k x, i.pick = .entry (start + k) ∧ (e :: rest)[k]? = some x
        ∧ i.air = s.airTime x.body.length := by
      intro h
      obtain ⟨k, x, hpick, hx, hair⟩ := ih h
      exact ⟨k + 1, x, by rw [hpick, Nat.add_assoc, Nat.add_comm 1 k], hx, hair⟩
    unfold State.queueItems at h
    split at h
    · rcases List.mem_cons.mp h with rfl | h
      · exact ⟨0, e, rfl, rfl, rfl⟩
      · exact hlater h
    · exact hlater h

/-- The air time an item carries is that of its body. -/
theorem State.items_air (s : State) {i : Item} (h : i ∈ s.items) :
    (∃ k e, i.pick = .entry k ∧ s.uls.queue[k]? = some e ∧ i.air = s.airTime e.body.length)
      ∨ (i.pick = .trip ∧ i.air = s.airTime Config.tripReportBytes)
      ∨ (i.pick = .beacon ∧ i.air = s.airTime Config.beaconBytes) := by
  unfold State.items at h
  rw [List.mem_append, List.mem_append] at h
  rcases h with (h | h) | h
  · obtain ⟨k, e, hpick, he, hair⟩ := s.queueItems_air h
    exact .inl ⟨k, e, by rw [hpick, Nat.zero_add], he, hair⟩
  · unfold State.tripItem at h
    split at h
    · rw [List.mem_singleton] at h
      subst h
      exact .inr (.inl ⟨rfl, rfl⟩)
    · cases h
  · unfold State.beaconItem at h
    split at h
    · split at h
      · rw [List.mem_singleton] at h
        subst h
        exact .inr (.inr ⟨rfl, rfl⟩)
      · cases h
    · cases h

theorem State.bidMayStart_iff {s : State} {e : Entry} {b : BidTimes} :
    s.bidMayStart e b = true
      ↔ s.ptt = false ∧ s.cd = false ∧ b.release + s.airTime e.body.length ≤ b.deadline := by
  simp [State.bidMayStart, and_assoc]

/-! ## The choice (R40 to R42) -/

theorem Uls.fits_iff {u : Uls} {ending : Nat} :
    u.fits ending = true
      ↔ ∀ e ∈ u.queue, ∀ b, e.bid = some b → e.mark = .waiting → b.held = false → ending ≤ b.release := by
  rw [Uls.fits, List.all_eq_true]
  refine forall₂_congr fun e _ => ?_
  unfold Entry.toCome
  split
  next b hb =>
    split
    next h => simp [absentOr, hb, h.1, h.2]
    next h =>
      simp only [absentOr, hb, true_iff]
      intro b' hb' hm hh
      cases hb'
      exact (h ⟨hm, hh⟩).elim
  next hb => simp [absentOr, hb]

/-- `a` comes before `b` wherever they stand: a higher level, or the same level and an earlier join stamp. -/
theorem Item.ranksBefore_iff {a b : Item} :
    a.ranksBefore b = true ↔ b.level < a.level ∨ (b.level = a.level ∧ a.join < b.join) := by
  rw [Item.ranksBefore, Bool.or_eq_true, Bool.and_eq_true, decide_eq_true_eq, decide_eq_true_eq, beq_iff_eq,
    @eq_comm _ a.level]

theorem firstRanked_mem {l : List Item} {i : Item} (h : firstRanked l = some i) : i ∈ l := by
  induction l generalizing i with
  | nil => cases h
  | cons a rest ih =>
    unfold firstRanked at h
    split at h
    · cases h
      exact List.mem_cons_self
    next b hb =>
      split at h
      · cases h
        exact List.mem_cons_of_mem _ (ih hb)
      · cases h
        exact List.mem_cons_self

/-- An item that ranks before all that stand before it, and after none that stand behind it, is the first. -/
theorem firstRanked_of_split {front back : List Item} {i : Item} (hf : ∀ j ∈ front, i.ranksBefore j = true)
    (hb : ∀ j ∈ back, j.ranksBefore i = false) : firstRanked (front ++ i :: back) = some i := by
  induction front with
  | nil =>
    rw [List.nil_append, firstRanked]
    split
    · rfl
    next b h => rw [hb b (firstRanked_mem h), if_neg (by decide)]
  | cons a rest ih =>
    obtain ⟨ha, hrest⟩ := List.forall_mem_cons.mp hf
    rw [List.cons_append, firstRanked, ih hrest]
    simp only [ha, if_true]

theorem State.choose_of_first {s : State} {i : Item} (hs : s.uls.sched = .idle) (hl : s.link.mode = .locked)
    (hi : firstRanked (s.items.filter s.fitsNow) = some i) : s.choose = s.beginAccess i.pick := by
  rw [State.choose, if_pos ⟨hs, hl⟩, hi]

theorem State.choose_of_no_item {s : State} (h : ∀ i ∈ s.items, s.fitsNow i = false) : s.choose = s := by
  unfold State.choose
  have hnone : s.items.filter s.fitsNow = [] := List.filter_eq_nil_iff.mpr fun i hi => by simp [h i hi]
  rw [hnone]
  split <;> rfl

theorem State.drawnSlots_eq (s : State) :
    s.drawnSlots =
      (s.uls.rng * 25173 + 13849) % 65536 / 256 % max s.op.minWindow (min s.uls.window s.op.maxWindow) := by
  rw [State.drawnSlots, drawValue, nextRng, OpRecord.clampWindow]

/-- The state in BACKOFF after the draw, its scheduler written out (R44, R45, R53). -/
theorem State.inBackoff_eq (s : State) (cand : Cand) :
    s.inBackoff cand =
      s.setUls
        { s.uls with
          window := max s.op.minWindow (min s.uls.window s.op.maxWindow)
          rng := (s.uls.rng * 25173 + 13849) % 65536
          sched := .backoff cand (s.now + (s.uls.rng * 25173 + 13849) % 65536 / 256
            % max s.op.minWindow (min s.uls.window s.op.maxWindow) * s.op.slot) } := by
  rw [State.inBackoff, State.drawnSlots_eq, nextRng, OpRecord.clampWindow]

/-- What CLEARING begins with is what BACKOFF sets again. -/
theorem State.enterBackoff_setSched (s : State) (sched : Sched) (cand : Cand) :
    (s.setUls { s.uls with sched := sched }).enterBackoff cand = s.enterBackoff cand := by
  have hin : (s.setUls { s.uls with sched := sched }).inBackoff cand = s.inBackoff cand := by
    rw [State.inBackoff_eq, State.inBackoff_eq, State.setUls_setUls, State.setUls_uls, State.setUls_op,
      State.setUls_now]
  have hslots : (s.setUls { s.uls with sched := sched }).drawnSlots = s.drawnSlots := by
    rw [State.drawnSlots_eq, State.drawnSlots_eq, State.setUls_uls, State.setUls_op]
  rw [State.enterBackoff_eq, State.enterBackoff_eq, hin, hslots]

/-- An access begins (R43, R44): it waits for CD, or the clear timer starts, or BACKOFF is entered at once. -/
theorem State.enterClearing_eq (s : State) (cand : Cand) :
    s.enterClearing cand =
      if s.cd then s.setUls { s.uls with sched := .clearing cand none }
      else if s.op.clear ≠ 0 then s.setUls { s.uls with sched := .clearing cand (some (s.now + s.op.clear)) }
      else s.enterBackoff cand := by
  unfold State.enterClearing State.beginClear
  split
  · rfl
  · by_cases h : s.op.clear = 0
    · rw [if_neg (not_not_intro h)]
      exact (if_pos h).trans (s.enterBackoff_setSched _ cand)
    · rw [if_pos h]
      exact if_neg h

end Sys2Proof.Machine

section
open Sys2Proof Sys2Proof.Machine

/-- Settles O10: by the rounding of the quotient, and by what each test and each transmission reads. -/
theorem airTimeOfTelegram : Obligations.AirTimeOfTelegram := by
  refine ⟨fun rate bytes h => ceilDiv_bounds _ h, by decide, by decide, by decide, fun s bytes => ?_,
    fun s item kind body => ⟨_, rfl, rfl⟩, fun s r => ⟨tripReportBody_length r, beaconBody_length s⟩,
    fun s i hi => ⟨rfl, fun k hk => ?_, fun hk => ?_, fun hk => ?_⟩, fun s cand => ?_,
    fun s e b => State.bidMayStart_iff⟩
  · rw [State.airTime, State.op]
    cases s.dcu.operating <;> rfl
  · rcases s.items_air hi with ⟨k', e, hpick, he, hair⟩ | ⟨hpick, -⟩ | ⟨hpick, -⟩
    · rw [hk] at hpick
      cases hpick
      exact ⟨e, he, hair⟩
    · rw [hk] at hpick
      cases hpick
    · rw [hk] at hpick
      cases hpick
  · rcases s.items_air hi with ⟨k', e, hpick, -⟩ | ⟨-, hair⟩ | ⟨hpick, -⟩
    · rw [hk] at hpick
      cases hpick
    · exact hair
    · rw [hk] at hpick
      cases hpick
  · rcases s.items_air hi with ⟨k', e, hpick, -⟩ | ⟨hpick, -⟩ | ⟨-, hair⟩
    · rw [hk] at hpick
      cases hpick
    · rw [hk] at hpick
      cases hpick
    · exact hair
  · cases cand <;> rfl

/-- Settles O12: the choice is the first in rank order of the items that fit, and begins its access. -/
theorem choiceTakesFirstRanked : Obligations.ChoiceTakesFirstRanked := by
  refine ⟨fun u ending => Uls.fits_iff, fun s i => rfl, fun s => ⟨fun h => ?_, fun n i hs hl hi hfit hrank => ?_⟩⟩
  · rcases h with h | h | h
    · exact State.choose_of_not fun hc => h hc.1
    · exact State.choose_of_not fun hc => h hc.2
    · exact State.choose_of_no_item h
  · have hfirst : firstRanked (s.items.filter s.fitsNow) = some i := by
      obtain ⟨hn, hget⟩ := List.getElem?_eq_some_iff.mp hi
      have hsplit : s.items = s.items.take n ++ i :: s.items.drop (n + 1) := by
        rw [← hget, List.getElem_cons_drop, List.take_append_drop]
      rw [hsplit, List.filter_append, List.filter_cons_of_pos hfit]
      refine firstRanked_of_split (fun j hj => ?_) fun j hj => ?_
      · obtain ⟨hmem, hj⟩ := List.mem_filter.mp hj
        obtain ⟨m, hm⟩ := List.mem_iff_getElem?.mp hmem
        have hlt : m < n := by
          by_contra hge
          rw [List.getElem?_take_eq_none (by omega)] at hm
          cases hm
        rw [List.getElem?_take_of_lt hlt] at hm
        exact Item.ranksBefore_iff.mpr ((hrank m j hm hj).1 hlt)
      · obtain ⟨hmem, hj⟩ := List.mem_filter.mp hj
        obtain ⟨m, hm⟩ := List.mem_iff_getElem?.mp hmem
        rw [List.getElem?_drop] at hm
        have hafter := (hrank _ j hm hj).2 (by omega)
        rw [← Bool.not_eq_true, Item.ranksBefore_iff]
        omega
    have hbegun : ∀ (q : State) (cand : Cand), q.cd = s.cd → q.dcu = s.dcu → q.ms = s.ms →
        q.uls.window = s.uls.window → q.uls.rng = s.uls.rng →
        q.enterClearing cand =
          if s.cd then q.setUls { q.uls with sched := .clearing cand none }
          else if s.op.clear ≠ 0 then
            q.setUls { q.uls with sched := .clearing cand (some (s.now + s.op.clear)) }
          else
            let window := max s.op.minWindow (min s.uls.window s.op.maxWindow)
            let rng := (s.uls.rng * 25173 + 13849) % 65536
            let r := rng / 256 % window
            let backoff := q.setUls
              { q.uls with window := window, rng := rng, sched := .backoff cand (s.now + r * s.op.slot) }
            if r = 0 then backoff.finishBackoff cand else backoff := by
      intro q cand hcd hdcu hms hwindow hrng
      have hop : q.op = s.op := by rw [State.op, State.op, hdcu]
      have hnow : q.now = s.now := congrArg BitVec.toNat hms
      rw [State.enterClearing_eq, State.enterBackoff_eq, State.inBackoff_eq, State.drawnSlots_eq, hcd, hop, hnow,
        hwindow, hrng]
    rw [State.choose_of_first hs hl hfirst]
    simp only
    split
    next k hk =>
      rw [hk, ← markAt_eq_modify]
      exact hbegun _ _ rfl rfl rfl rfl rfl
    next hk =>
      rw [hk]
      exact hbegun s _ rfl rfl rfl rfl rfl
    next hk =>
      rw [hk]
      exact hbegun s _ rfl rfl rfl rfl rfl

end
end

section
/-!
PROOFS. The course of an access: CD, the clear time, the backoff and the start (R43 to R46, R50).
-/

namespace Sys2Proof.Machine

/-! ## Ending an access (R47) -/

theorem State.endAccess_of_no_candidate {s : State} (h : ∀ x ∈ s.uls.queue, x.mark ≠ .candidate)
    (ha : s.uls.sched.inAccess = true) : s.endAccess = s.setUls { s.uls with sched := .idle } := by
  rw [State.endAccess_of_access ha, markFirst_of_none fun x hx => Entry.isCandidate_eq_false.mpr (h x hx)]

theorem State.endAccess_of_split {s : State} {front back : List Entry} {x : Entry}
    (ha : s.uls.sched.inAccess = true) (hq : s.uls.queue = front ++ x :: back) (hx : x.mark = .candidate)
    (hf : ∀ y ∈ front, y.mark ≠ .candidate) :
    s.endAccess =
      s.setUls { s.uls with queue := front ++ { x with mark := .waiting } :: back, sched := .idle } := by
  rw [State.endAccess_of_access ha, hq, markFirst_of_split (fun y hy => Entry.isCandidate_eq_false.mpr (hf y hy))
    (Entry.isCandidate_iff.mpr hx)]

/-! ## Choices that cannot follow -/

theorem State.choose_of_sched {s : State} (h : s.uls.sched ≠ .idle) : s.choose = s :=
  State.choose_of_not fun hc => h hc.1

theorem State.choose_of_ptt {s : State} (h : s.ptt = true) : s.choose = s := by
  refine State.choose_of_sched fun hs => ?_
  rw [State.ptt, hs] at h
  cases h

/-- The timer of a state that stands at a command's stamp does not move at that command. -/
theorem State.advanceTo_of_ms {s q : State} {t : Stamp} (h : q.ms = (s.advanceTo t).ms) : q.advanceTo t = q := by
  have hle : (s.advanceTo t).now = max s.now t.toNat := s.advanceTo_now t
  rw [State.advanceTo, if_neg]
  rw [BitVec.lt_def, h]
  have hms : (s.advanceTo t).ms.toNat = (s.advanceTo t).now := rfl
  omega

/-! ## Commands of an access -/

theorem exec_cdFall (t : Stamp) (s : State) : exec (.cdFall t) s = .next (s.event t State.cdFall) := rfl

theorem exec_cdRise (t : Stamp) (s : State) : exec (.cdRise t) s = .next (s.event t State.cdRise) := rfl

/-- The clear timer runs, or the access is in BACKOFF: a rise of CD is a busy channel (R46). -/
def Sched.Senses (x : Sched) : Prop :=
  (∃ cand deadline, x = .clearing cand (some deadline)) ∨ ∃ cand ends, x = .backoff cand ends

theorem Sched.Senses.inAccess {x : Sched} (h : x.Senses) : x.inAccess = true := by
  obtain ⟨cand, deadline, rfl⟩ | ⟨cand, ends, rfl⟩ := h <;> rfl

section

variable {q : State}

theorem State.cdFall_of_waiting {cand : Cand} (h : q.uls.sched = .clearing cand none) :
    q.cdFall = ((q.setCd false).beginClear cand).choose := by
  simp only [State.cdFall, State.setCd_uls, h]

theorem State.cdFall_of_not_waiting (h : ∀ cand, q.uls.sched ≠ .clearing cand none) :
    q.cdFall = q.setCd false := by
  unfold State.cdFall
  dsimp only
  split
  next hs => exact absurd hs (h _)
  next => rfl

theorem State.cdRise_of_senses (h : q.uls.sched.Senses) : q.cdRise = (q.setCd true).busyChannel := by
  obtain ⟨cand, deadline, hs⟩ | ⟨cand, ends, hs⟩ := h <;> simp only [State.cdRise, State.setCd_uls, hs]

theorem State.cdRise_of_not_senses (h : ¬ q.uls.sched.Senses) : q.cdRise = q.setCd true := by
  unfold State.cdRise
  dsimp only
  split
  next hs => exact absurd (.inl ⟨_, _, hs⟩) h
  next hs => exact absurd (.inr ⟨_, _, hs⟩) h
  next => rfl

end

theorem exec_clearTimerExpiry (t : Stamp) (s : State) :
    exec (.clearTimerExpiry t) s = .next (s.event t State.clearExpiry) := rfl

theorem exec_backoffEnd (t : Stamp) (s : State) : exec (.backoffEnd t) s = .next (s.event t State.backoffEnd) := rfl

theorem State.inBackoff_choose (s : State) (cand : Cand) : (s.inBackoff cand).choose = s.inBackoff cand :=
  State.choose_of_sched (by rw [State.inBackoff, State.setUls_uls]; exact nofun)

/-- A backoff of no slots ends at the event that begins it, as its end at the same instant would (R44). -/
theorem exec_backoffEnd_inBackoff {s q : State} {t : Stamp} {cand : Cand} (hv : q.vdd = true)
    (hms : q.ms = (s.advanceTo t).ms) (hr : q.drawnSlots = 0) :
    exec (.backoffEnd t) (q.inBackoff cand) = .next (q.enterBackoff cand).choose := by
  have hadv : (q.inBackoff cand).advanceTo t = q.inBackoff cand :=
    State.advanceTo_of_ms (s := s) (by rw [State.inBackoff, State.setUls_ms, hms])
  have hsched : (q.inBackoff cand).uls.sched = .backoff cand q.now := by
    rw [State.inBackoff, State.setUls_uls, hr, Nat.zero_mul, Nat.add_zero]
  have hnow : (q.inBackoff cand).reached q.now = true := State.reached_iff.mpr (by
    rw [State.inBackoff, State.setUls_now])
  have hvdd : (q.inBackoff cand).vdd = true := by rw [State.inBackoff, State.setUls_vdd, hv]
  rw [exec_of_event hvdd (exec_backoffEnd t _), hadv, State.backoffEnd, hsched]
  simp only
  rw [if_pos hnow, State.enterBackoff_eq, if_pos hr]

/-- The clear time has passed: the draw, and BACKOFF or its end at once (R43 to R45). -/
theorem State.enterBackoff_choose_of_slots {q : State} {cand : Cand} (hr : q.drawnSlots ≠ 0) :
    (q.enterBackoff cand).choose = q.inBackoff cand := by
  rw [State.enterBackoff_eq, if_neg hr, State.inBackoff_choose]

/-! ## The busy channel (R46) -/

theorem countAttempt_of_none {queue : List Entry} (h : ∀ x ∈ queue, x.mark ≠ .candidate) :
    countAttempt queue = queue := by
  have hid : ∀ x ∈ queue, (if x.isCandidate then { x with attempts := x.attempts + 1 } else x) = x := fun x hx =>
    if_neg (by rw [Entry.isCandidate_iff]; exact h x hx)
  exact (List.map_congr_left hid).trans (List.map_id' queue)

theorem countAttempt_of_split {front back : List Entry} {e : Entry} (he : e.mark = .candidate)
    (h : ∀ x ∈ front ++ back, x.mark ≠ .candidate) :
    countAttempt (front ++ e :: back) = front ++ { e with attempts := e.attempts + 1 } :: back := by
  have hfront : countAttempt front = front := countAttempt_of_none fun x hx => h x (List.mem_append_left _ hx)
  have hback : countAttempt back = back := countAttempt_of_none fun x hx => h x (List.mem_append_right _ hx)
  unfold countAttempt at hfront hback ⊢
  rw [List.map_append, List.map_cons, hfront, hback, if_pos (Entry.isCandidate_iff.mpr he)]

theorem OpRecord.exhausted_of_not {o : OpRecord} {e : Entry} (h : e.mark ≠ .candidate) : o.exhausted e = false := by
  rw [OpRecord.exhausted, Entry.isCandidate_eq_false.mpr h]
  rfl

theorem OpRecord.exhausted_iff {o : OpRecord} {e : Entry} (h : e.mark = .candidate) :
    o.exhausted e = true ↔ (o.params e.kind).limit ≠ 0 ∧ (o.params e.kind).limit < e.attempts := by
  simp [OpRecord.exhausted, Entry.isCandidate_iff.mpr h]

section

variable {s : State}

/-- The state of a busy channel before an exhausted candidate leaves. -/
def State.counted (s : State) : State :=
  s.setUls { s.uls with queue := countAttempt s.uls.queue, window := min (2 * s.uls.window) s.op.maxWindow }

theorem State.busyChannel_of_kept (h : ∀ x ∈ countAttempt s.uls.queue, s.op.exhausted x = false) :
    s.busyChannel = s.counted.endAccess.choose := by
  have hnone : s.counted.uls.queue.any s.counted.op.exhausted = false := by
    rw [List.any_eq_false]
    exact fun x hx => Bool.eq_false_iff.mp (h x hx)
  unfold State.busyChannel
  simp only
  refine congrArg (fun q : State => q.endAccess.choose) (if_neg ?_)
  rw [Bool.not_eq_true]
  exact hnone

theorem State.busyChannel_of_no_candidate (ha : s.uls.sched.inAccess = true)
    (h : ∀ x ∈ s.uls.queue, x.mark ≠ .candidate) :
    s.busyChannel =
      (s.setUls { s.uls with window := min (2 * s.uls.window) s.op.maxWindow, sched := .idle }).choose := by
  have hcount := countAttempt_of_none h
  have hend := State.endAccess_of_no_candidate (s := s.counted) (by rw [State.counted, State.setUls_uls, hcount]; exact h) ha
  rw [State.busyChannel_of_kept (by rw [hcount]; exact fun x hx => OpRecord.exhausted_of_not (h x hx)), hend,
    State.counted, hcount]
  rfl

variable {front back : List Entry} {e : Entry}

/-- The candidate has an attempt left: it waits again (R46). -/
theorem State.busyChannel_of_attempt (ha : s.uls.sched.inAccess = true) (hq : s.uls.queue = front ++ e :: back)
    (he : e.mark = .candidate) (h : ∀ x ∈ front ++ back, x.mark ≠ .candidate)
    (hl : (s.op.params e.kind).limit = 0 ∨ e.attempts + 1 ≤ (s.op.params e.kind).limit) :
    s.busyChannel =
      (s.setUls
        { s.uls with
          queue := front ++ { e with attempts := e.attempts + 1, mark := .waiting } :: back
          window := min (2 * s.uls.window) s.op.maxWindow
          sched := .idle }).choose := by
  have hcount : countAttempt s.uls.queue = front ++ { e with attempts := e.attempts + 1 } :: back := by
    rw [hq, countAttempt_of_split he h]
  have hkept : ∀ x ∈ countAttempt s.uls.queue, s.op.exhausted x = false := by
    rw [hcount]
    intro x hx
    rcases List.mem_append.mp hx with hx | hx
    · exact OpRecord.exhausted_of_not (h x (List.mem_append_left _ hx))
    · rcases List.mem_cons.mp hx with rfl | hx
      · rw [← Bool.not_eq_true, OpRecord.exhausted_iff (e := { e with attempts := e.attempts + 1 }) he]
        simp only
        omega
      · exact OpRecord.exhausted_of_not (h x (List.mem_append_right _ hx))
  have hsplit : s.counted.uls.queue = front ++ { e with attempts := e.attempts + 1 } :: back := hcount
  rw [State.busyChannel_of_kept hkept, State.endAccess_of_split (s := s.counted) ha hsplit he
    fun y hy => h y (List.mem_append_left _ hy)]
  rfl

/-- The candidate has had its last attempt: it leaves, counted (R46). -/
theorem State.busyChannel_of_exhausted (ha : s.uls.sched.inAccess = true) (hq : s.uls.queue = front ++ e :: back)
    (he : e.mark = .candidate) (h : ∀ x ∈ front ++ back, x.mark ≠ .candidate)
    (h0 : (s.op.params e.kind).limit ≠ 0) (hl : (s.op.params e.kind).limit < e.attempts + 1) :
    s.busyChannel =
      (s.setUls
        { s.uls with
          queue := front ++ back
          window := min (2 * s.uls.window) s.op.maxWindow
          drops := countUp s.uls.drops
          sched := .idle }).choose := by
  have hcount : s.counted.uls.queue = front ++ { e with attempts := e.attempts + 1 } :: back := by
    rw [State.counted, State.setUls_uls, hq, countAttempt_of_split he h]
  have hex : s.op.exhausted { e with attempts := e.attempts + 1 } = true :=
    (OpRecord.exhausted_iff (e := { e with attempts := e.attempts + 1 }) he).mpr ⟨h0, hl⟩
  have hothers : ∀ x ∈ front ++ back, s.op.exhausted x = false := fun x hx => OpRecord.exhausted_of_not (h x hx)
  let dropped := s.counted.setUls { s.counted.uls with drops := countUp s.uls.drops }
  have hbusy : s.busyChannel = (dropped.dropEntries s.op.exhausted).endAccess.choose := by
    unfold State.busyChannel
    simp only
    refine congrArg (fun q : State => q.endAccess.choose) (if_pos ?_)
    refine List.any_eq_true.mpr ⟨{ e with attempts := e.attempts + 1 }, ?_, hex⟩
    exact hcount ▸ List.mem_append_right _ List.mem_cons_self
  have hfilter : dropped.uls.queue.filter (fun x => !s.op.exhausted x) = front ++ back := by
    have : dropped.uls.queue = front ++ { e with attempts := e.attempts + 1 } :: back := hcount
    rw [this, filter_of_split hothers hex]
  have hends : dropped.uls.queue.any (fun x => s.op.exhausted x && x.isCandidate) = true := by
    refine List.any_eq_true.mpr ⟨{ e with attempts := e.attempts + 1 }, ?_, ?_⟩
    · exact hcount ▸ List.mem_append_right _ List.mem_cons_self
    · rw [hex, Bool.true_and]
      exact Entry.isCandidate_iff.mpr he
  have hdrop : dropped.dropEntries s.op.exhausted =
      (dropped.setUls { dropped.uls with queue := front ++ back }).endAccess := by
    unfold State.dropEntries
    simp only
    rw [if_pos hends, hfilter]
  have hend := State.endAccess_of_no_candidate (s := dropped.setUls { dropped.uls with queue := front ++ back }) h ha
  rw [hbusy, hdrop, State.endAccess_of_no_access (State.endAccess_inAccess _), hend]
  rfl

end

/-! ## The candidate's air time and its start (R42, R50) -/

theorem State.candBytes_advanceTo (s : State) (t : Stamp) (cand : Cand) :
    (s.advanceTo t).candBytes cand = s.candBytes cand := by
  cases cand <;> simp only [State.candBytes, State.advanceTo_uls, State.advanceTo_trips, State.advanceTo_emu]

theorem State.airTime_advanceTo (s : State) (t : Stamp) (bytes : Nat) :
    (s.advanceTo t).airTime bytes = s.airTime bytes := by
  rw [State.airTime, State.airTime, State.op_advanceTo]

/-- A candidate that is there is sent. -/
theorem State.startCand_ptt {s : State} {cand : Cand} {bytes : Nat} (h : s.candBytes cand = some bytes) :
    (s.startCand cand).ptt = true := by
  cases cand with
  | entry =>
    obtain ⟨e, he, -⟩ := Option.map_eq_some_iff.mp h
    simp only [State.startCand, he]
    rfl
  | trip =>
    obtain ⟨r, hr, -⟩ := Option.map_eq_some_iff.mp h
    simp only [State.startCand, hr]
    rfl
  | beacon => rfl

end Sys2Proof.Machine

section
open Sys2Proof Sys2Proof.Machine

/-- Settles O13: a fall of CD starts what an access waits for; a rise in an access counts an attempt, and the
candidate waits or leaves. -/
theorem carrierDetectEdges : Obligations.CarrierDetectEdges := by
  intro s t hv
  have huls : ∀ cd, ((s.advanceTo t).setCd cd).uls = s.uls := fun cd => by rw [State.setCd_uls, State.advanceTo_uls]
  have hop : ∀ cd, ((s.advanceTo t).setCd cd).op = s.op := fun cd => s.op_advanceTo t
  have hfall : exec (.cdFall t) s = .next (s.advanceTo t).cdFall := exec_of_event hv (exec_cdFall t s)
  have hrise : exec (.cdRise t) s = .next (s.advanceTo t).cdRise := exec_of_event hv (exec_cdRise t s)
  have hrises : s.uls.sched.Senses → (s.advanceTo t).cdRise = ((s.advanceTo t).setCd true).busyChannel
      ∧ ((s.advanceTo t).setCd true).uls.sched.inAccess = true := by
    intro hs
    rw [← s.advanceTo_uls t] at hs
    exact ⟨State.cdRise_of_senses hs, hs.inAccess⟩
  intro s0 waits busy window
  have hsenses : busy = true → s.uls.sched.Senses := by
    intro hb
    simp only [busy] at hb
    cases hs : s.uls.sched with
    | idle => rw [hs] at hb; cases hb
    | clearing cand deadline =>
      cases deadline with
      | none => rw [hs] at hb; cases hb
      | some deadline => exact .inl ⟨cand, deadline, rfl⟩
    | backoff cand ends => exact .inr ⟨cand, ends, rfl⟩
    | onAir tx => rw [hs] at hb; cases hb
  refine ⟨fun hw => ?_, fun cand hs => ?_, fun hb => ?_, fun hb hnone => ?_, fun front e back hb hq he hother => ?_⟩
  · have hn : ∀ cand, (s.advanceTo t).uls.sched ≠ .clearing cand none := by
      intro cand hs
      rw [State.advanceTo_uls] at hs
      simp only [waits, hs] at hw
      cases hw
    rw [hfall, State.cdFall_of_not_waiting hn]
  · have hbegin : exec (.cdFall t) s = .next (((s.advanceTo t).setCd false).beginClear cand).choose := by
      rw [hfall, State.cdFall_of_waiting (by rw [State.advanceTo_uls]; exact hs)]
    have hclear := State.enterClearing_eq ((s.advanceTo t).setCd false) cand
    rw [State.enterClearing, State.setCd_cd, if_neg (by decide), if_neg (by decide), hop, huls] at hclear
    refine ⟨fun hne => ?_, fun h0 => ?_⟩
    · rw [hbegin, hclear, if_pos hne, State.choose_of_sched (by rw [State.setUls_uls]; exact nofun)]
      rfl
    · rw [if_neg (not_not_intro h0)] at hclear
      rw [hclear] at hbegin
      have hslots := State.drawnSlots_eq ((s.advanceTo t).setCd false)
      have hin := State.inBackoff_eq ((s.advanceTo t).setCd false) cand
      rw [hop, huls] at hslots hin
      refine ⟨fun hr => ?_, fun hr => ?_⟩
      · rw [hbegin, State.enterBackoff_choose_of_slots (by rw [hslots]; exact hr), hin]
        rfl
      · have hend := exec_backoffEnd_inBackoff (s := s) (q := (s.advanceTo t).setCd false) (t := t) (cand := cand)
          ((s.advanceTo_vdd t).trans hv) rfl (by rw [hslots]; exact hr)
        rw [hbegin, ← hend, hin]
        rfl
  · have hn : ¬ (s.advanceTo t).uls.sched.Senses := by
      rw [State.advanceTo_uls]
      rintro (⟨cand, deadline, hs⟩ | ⟨cand, ends, hs⟩) <;> (simp only [busy, hs] at hb; cases hb)
    rw [hrise, State.cdRise_of_not_senses hn]
  · obtain ⟨hbusy, haccess⟩ := hrises (hsenses hb)
    rw [hrise, hbusy, State.busyChannel_of_no_candidate haccess (by rw [huls]; exact hnone), hop, huls]
  · obtain ⟨hbusy, haccess⟩ := hrises (hsenses hb)
    have hq' : ((s.advanceTo t).setCd true).uls.queue = front ++ e :: back := by rw [huls, hq]
    refine ⟨fun hl => ?_, fun h0 hl => ?_⟩
    · rw [hrise, hbusy, State.busyChannel_of_attempt haccess hq' he hother (by rw [hop]; exact hl), hop, huls]
    · rw [hrise, hbusy, State.busyChannel_of_exhausted haccess hq' he hother (by rw [hop]; exact h0)
        (by rw [hop]; exact hl), hop, huls]
      rfl

/-- Settles O14: by the deadline of the clear timer and of the backoff, and by what the candidate is. -/
theorem backoffFollowsClearTime : Obligations.BackoffFollowsClearTime := by
  intro s t cand hv
  have hslots := State.drawnSlots_eq (s.advanceTo t)
  have hin := State.inBackoff_eq (s.advanceTo t) cand
  rw [State.op_advanceTo, State.advanceTo_uls] at hslots hin
  refine ⟨fun deadline hs => ?_, fun ends hs => ?_⟩
  · have hexpiry : exec (.clearTimerExpiry t) s =
        .next (if (s.advanceTo t).reached deadline && !(s.advanceTo t).cd then
          ((s.advanceTo t).enterBackoff cand).choose else s.advanceTo t) := by
      rw [exec_of_event hv (exec_clearTimerExpiry t s), State.clearExpiry]
      simp only [State.advanceTo_uls, hs]
    have hcond : ((s.advanceTo t).reached deadline && !(s.advanceTo t).cd) = true
        ↔ deadline ≤ (s.advanceTo t).now ∧ s.cd = false := by
      rw [Bool.and_eq_true, State.reached_iff, Bool.not_eq_true', State.advanceTo_cd]
    refine ⟨fun h => ?_, fun hd hc hr => ?_, fun hd hc hr => ?_⟩
    · rw [hexpiry, if_neg]
      rw [hcond]
      rintro ⟨hd, hc⟩
      rcases h with h | h
      · omega
      · rw [hc] at h
        cases h
    · rw [hexpiry, if_pos (hcond.mpr ⟨hd, hc⟩), State.enterBackoff_choose_of_slots (by rw [hslots]; exact hr), hin]
    · have hend := exec_backoffEnd_inBackoff (s := s) (q := s.advanceTo t) (t := t) (cand := cand)
        ((s.advanceTo_vdd t).trans hv) rfl (by rw [hslots]; exact hr)
      rw [hexpiry, if_pos (hcond.mpr ⟨hd, hc⟩), ← hend, hin]
  · have hexpiry : exec (.backoffEnd t) s =
        .next (if (s.advanceTo t).reached ends then ((s.advanceTo t).finishBackoff cand).choose
          else s.advanceTo t) := by
      rw [exec_of_event hv (exec_backoffEnd t s), State.backoffEnd]
      simp only [State.advanceTo_uls, hs]
    refine ⟨fun h => ?_, fun hnone hd => ?_, fun bytes hsome hd => ⟨fun hfit => ?_, fun hfit => ?_⟩⟩
    · rw [hexpiry, if_neg (by rw [State.reached_iff]; omega)]
    · rw [hexpiry, if_pos (State.reached_iff.mpr hd), State.finishBackoff, State.candBytes_advanceTo, hnone]
    · have hptt := State.startCand_ptt ((s.candBytes_advanceTo t cand).trans hsome)
      rw [hexpiry, if_pos (State.reached_iff.mpr hd), State.finishBackoff, State.candBytes_advanceTo, hsome]
      simp only [State.advanceTo_uls, State.airTime_advanceTo, hfit, if_true]
      exact ⟨congrArg _ (State.choose_of_ptt hptt), hptt⟩
    · rw [hexpiry, if_pos (State.reached_iff.mpr hd), State.finishBackoff, State.candBytes_advanceTo, hsome]
      simp only [State.advanceTo_uls, State.airTime_advanceTo, hfit, Bool.false_eq_true, if_false]

/-- Settles O15: by the item sent. -/
theorem transmissionStarts : Obligations.TransmissionStarts := by
  intro s item kind body front back e
  refine ⟨rfl, fun hq he hf => ?_, fun h hh => ?_, rfl⟩
  · have hfind : s.uls.queue.find? Entry.isCandidate = some e := by
      rw [hq]
      exact find?_of_split (fun x hx => Entry.isCandidate_eq_false.mpr (hf x hx)) (Entry.isCandidate_iff.mpr he)
    have hmark : markFirst Entry.isCandidate .onAir s.uls.queue = front ++ { e with mark := .onAir } :: back := by
      rw [hq]
      exact markFirst_of_split (fun x hx => Entry.isCandidate_eq_false.mpr (hf x hx)) (Entry.isCandidate_iff.mpr he) _
    simp only [State.startCand, hfind, hmark]
    rfl
  · simp only [State.startCand, hh]
    rfl

end
end

section
/-!
PROOFS. The completion of a transmission (R50).
-/

namespace Sys2Proof.Machine

theorem exec_transmissionComplete (t : Stamp) (s : State) :
    exec (.transmissionComplete t) s = .next (s.event t State.settleTx) := rfl

/-- The Link Controller as PTT is released: the silence timer goes on, and a pending tune word is sent (R20, R25). -/
def State.released (s : State) : Link :=
  if s.link.tunePending then
    { s.link with
      silence := s.link.silence.resume s.now
      tunePending := false
      tuneWord := some (tuneBytes ((s.channels[s.link.entry]?.map (fun c => c.number)).getD 0))
      settle := some (s.now + s.op.settle) }
  else { s.link with silence := s.link.silence.resume s.now }

/-- The state as a transmission completes, before its item's owner is told. -/
def State.offAir (s : State) : State :=
  (s.setLink s.released).setUls { s.uls with window := s.op.minWindow, sched := .idle }

theorem State.releasePtt_eq (s : State) : s.releasePtt = s.setLink s.released := by
  unfold State.releasePtt State.released
  cases h : s.link.tunePending
  · simp only [State.setLink_link, h, Bool.false_eq_true, if_false]
  · simp only [State.setLink_link, h, if_true]
    rfl

theorem State.finishTx_eq (s : State) (tx : Transmission) : s.finishTx tx = s.offAir.itemCompleted tx.item := by
  rw [State.finishTx, State.releasePtt_eq]
  rfl

section

variable {s : State} {tx : Transmission}

theorem State.settleTx_of_due (h : s.uls.sched = .onAir tx) (hd : tx.ends ≤ s.now) :
    s.settleTx = (s.offAir.itemCompleted tx.item).choose := by
  rw [State.settleTx, h]
  simp only
  rw [if_pos (State.reached_iff.mpr hd), State.completeTx, State.finishTx_eq]

theorem State.settleTx_of_running (h : s.uls.sched = .onAir tx) (hd : s.now < tx.ends) : s.settleTx = s := by
  rw [State.settleTx, h]
  simp only
  rw [if_neg (by rw [State.reached_iff]; omega)]

theorem State.settleTx_of_ptt (h : s.ptt = false) : s.settleTx = s := by
  unfold State.settleTx
  split
  next h' =>
    rw [State.ptt, h'] at h
    cases h
  next => rfl

theorem exec_transmissionComplete_of_due {t : Stamp} (hv : s.vdd = true) (hs : s.uls.sched = .onAir tx)
    (hd : tx.ends ≤ (s.advanceTo t).now) :
    exec (.transmissionComplete t) s = .next (((s.advanceTo t).offAir.itemCompleted tx.item).choose) := by
  rw [exec_of_event hv (exec_transmissionComplete t s), State.settleTx_of_due ((s.advanceTo_uls t).symm ▸ hs) hd]

/-! ## The owner of the item (R49, R80, R143, R180) -/

theorem State.itemCompleted_of_gone (h : ∀ e ∈ s.uls.queue, e.mark ≠ .onAir) : s.itemCompleted .entry = s := by
  have hnone : s.uls.queue.find? Entry.isOnAir = none :=
    List.find?_eq_none.mpr fun x hx => by rw [Entry.isOnAir_iff]; exact h x hx
  simp only [State.itemCompleted, hnone]

theorem State.itemCompleted_of_split {front back : List Entry} {e : Entry} (hq : s.uls.queue = front ++ e :: back)
    (he : e.mark = .onAir) (h : ∀ x ∈ front ++ back, x.mark ≠ .onAir) :
    s.itemCompleted .entry = (s.setUls { s.uls with queue := front ++ back }).entryCompleted e := by
  have hothers : ∀ x ∈ front ++ back, x.isOnAir = false := fun x hx => Entry.isOnAir_eq_false.mpr (h x hx)
  have he' := Entry.isOnAir_iff.mpr he
  have hfind : s.uls.queue.find? Entry.isOnAir = some e := by
    rw [hq]
    exact find?_of_split (fun x hx => hothers x (List.mem_append_left _ hx)) he'
  have hfilter : s.uls.queue.filter (fun x => !x.isOnAir) = front ++ back := by
    rw [hq]
    exact filter_of_split hothers he'
  simp only [State.itemCompleted, hfind, hfilter]

theorem State.bidCompleted_of_accepted {number : Nat} {o : OfferEntry} (hf : s.offers.find number = some o)
    (ho : o.state = .accepted) :
    s.bidCompleted number =
      (s.setOffers (s.offers.put { o with state := .bidSent })).offerNotice .bidSent o (some .bidSent) := by
  rw [State.bidCompleted, hf]
  simp only [ho, if_true]

theorem State.bidCompleted_of_not {number : Nat}
    (h : ∀ o, s.offers.find number = some o → o.state ≠ .accepted) : s.bidCompleted number = s := by
  unfold State.bidCompleted
  split
  next o ho => rw [if_neg (h o ho)]
  next => rfl

end

end Sys2Proof.Machine

section
open Sys2Proof Sys2Proof.Machine

/-- Settles O16: PTT is released and the link goes on; then the item leaves, or its owner is told, and a choice
follows. -/
theorem transmissionCompletes : Obligations.TransmissionCompletes := by
  intro s t tx hv hs
  have hs0 : (s.advanceTo t).uls.sched = .onAir tx := (s.advanceTo_uls t).symm ▸ hs
  refine ⟨fun h => ?_, fun hd => ?_⟩
  · rw [exec_of_event hv (exec_transmissionComplete t s), State.settleTx_of_running hs0 h]
  · have hexec := exec_transmissionComplete_of_due hv hs hd
    have hoff : (s.advanceTo t).offAir =
        ((s.advanceTo t).setLink
          (if s.link.tunePending then
            { s.link with
              silence := s.link.silence.resume (s.advanceTo t).now
              tunePending := false
              tuneWord := some (tuneBytes ((s.channels[s.link.entry]?.map (fun c => c.number)).getD 0))
              settle := some ((s.advanceTo t).now + s.op.settle) }
          else { s.link with silence := s.link.silence.resume (s.advanceTo t).now })).setUls
          { s.uls with window := s.op.minWindow, sched := .idle } := by
      rw [State.offAir, State.released, State.advanceTo_link, State.channels_advanceTo, State.op_advanceTo,
        State.advanceTo_uls]
    have hqueue : (s.advanceTo t).offAir.uls.queue = s.uls.queue := by rw [hoff]; rfl
    have hoffers : (s.advanceTo t).offAir.offers = s.offers := by
      rw [hoff, State.setUls_offers, State.setLink_offers, State.advanceTo_offers]
    have htrips : (s.advanceTo t).offAir.trips = s.trips := by
      rw [hoff, State.setUls_trips, State.setLink_trips, State.advanceTo_trips]
    have hemu : (s.advanceTo t).offAir.emu = s.emu := by
      rw [hoff, State.setUls_emu, State.setLink_emu, State.advanceTo_emu]
    have hop : (s.advanceTo t).offAir.op = s.op := by
      rw [hoff]
      exact s.op_advanceTo t
    have hnow : (s.advanceTo t).offAir.now = (s.advanceTo t).now := by
      rw [hoff]
      rfl
    refine ⟨fun hi hnone => ?_, fun front e back hi hq he hother => ⟨fun hb => ?_, fun b hb ho => ?_,
      fun b o hb ho => ⟨fun ha => ?_, fun ha => ?_⟩⟩, fun n hi => ?_, fun hi hc => ?_, fun hi hc => ?_⟩
    · rw [hexec, hi, State.itemCompleted_of_gone (by rw [hqueue]; exact hnone), hoff]
      rfl
    · rw [hexec, hi, State.itemCompleted_of_split (hqueue.trans hq) he hother, State.entryCompleted, hb, hoff]
      rfl
    · rw [hexec, hi, State.itemCompleted_of_split (hqueue.trans hq) he hother, State.entryCompleted, hb]
      simp only
      rw [State.bidCompleted_of_not (fun o h => ?_), hoff]
      · rfl
      · rw [State.setUls_offers, hoffers, ho] at h
        cases h
    · rw [hexec, hi, State.itemCompleted_of_split (hqueue.trans hq) he hother, State.entryCompleted, hb]
      simp only
      rw [State.bidCompleted_of_accepted (o := o) (by rw [State.setUls_offers, hoffers, ho]) ha, State.setUls_offers,
        hoffers, hoff]
      rfl
    · rw [hexec, hi, State.itemCompleted_of_split (hqueue.trans hq) he hother, State.entryCompleted, hb]
      simp only
      rw [State.bidCompleted_of_not (fun o' h => ?_), hoff]
      · rfl
      · rw [State.setUls_offers, hoffers, ho] at h
        cases h
        exact ha
    · rw [hexec, hi]
      simp only [State.itemCompleted]
      rw [htrips, hoff]
      rfl
    · rw [hexec, hi]
      simp only [State.itemCompleted, State.beaconCompleted]
      rw [hemu, hc, if_neg (by decide), hoff]
      rfl
    · rw [hexec, hi]
      simp only [State.itemCompleted, State.beaconCompleted]
      rw [hemu, hop, hnow, if_pos hc, hoff]
      rfl

end
end

section
/-!
PROOFS. A BID at its release and at its deadline (R48, R49).
-/

namespace Sys2Proof.Machine

theorem exec_bidRelease (t : Stamp) (s : State) : exec (.bidRelease t) s = .next (s.event t State.bidRelease) := rfl

theorem exec_bidDeadline (t : Stamp) (s : State) : exec (.bidDeadline t) s = .next (s.event t State.bidDeadline) := rfl

/-! ## The release that is due (R48) -/

theorem Entry.toCome_of_waiting {e : Entry} {b : BidTimes} (hb : e.bid = some b) (hm : e.mark = .waiting)
    (hh : b.held = false) : e.toCome = some b.release := by
  rw [Entry.toCome, hb]
  simp only [hm, hh, and_self, if_true]

theorem Entry.toCome_of_onAir {e : Entry} (h : e.isOnAir = true) : e.toCome = none := by
  have hm := Entry.isOnAir_iff.mp h
  unfold Entry.toCome
  split
  · rw [if_neg]
    rw [hm]
    exact fun h => nomatch h.1
  · rfl

theorem Entry.dueRelease_of_due {e : Entry} {r now : Nat} (h : e.toCome = some r) (hr : r ≤ now) :
    e.dueRelease now = some r := by
  rw [Entry.dueRelease, h]
  simp only [hr, if_true]

theorem Entry.toCome_of_dueRelease {e : Entry} {r now : Nat} (h : e.dueRelease now = some r) : e.toCome = some r := by
  unfold Entry.dueRelease at h
  split at h
  next r' hr =>
    split at h
    · cases h
      exact hr
    · cases h
  next => cases h

theorem earliestRelease_of_none {now : Nat} {queue : List Entry}
    (h : ∀ x ∈ queue, x.dueRelease now = none) : earliestRelease now queue = none := by
  induction queue with
  | nil => rfl
  | cons e rest ih =>
    obtain ⟨he, hrest⟩ := List.forall_mem_cons.mp h
    rw [earliestRelease, he]
    exact ih hrest

theorem earliestRelease_le {now least r : Nat} {queue : List Entry}
    (h : ∀ x ∈ queue, ∀ r', x.toCome = some r' → least ≤ r') (hr : earliestRelease now queue = some r) :
    least ≤ r := by
  induction queue generalizing r with
  | nil => cases hr
  | cons e rest ih =>
    obtain ⟨he, hrest⟩ := List.forall_mem_cons.mp h
    unfold earliestRelease at hr
    split at hr
    next => exact ih hrest hr
    next hdue _ =>
      cases hr
      exact he _ (Entry.toCome_of_dueRelease hdue)
    next hdue hlater =>
      cases hr
      exact le_min (he _ (Entry.toCome_of_dueRelease hdue)) (ih hrest hlater)

/-- The earliest due release is that of the entry which no entry before it comes up to, and none behind it
undercuts. -/
theorem earliestRelease_of_split {now r : Nat} {front back : List Entry} {e : Entry} (he : e.toCome = some r)
    (hr : r ≤ now) (hf : ∀ x ∈ front, ∀ r', x.toCome = some r' → r < r')
    (hb : ∀ x ∈ back, ∀ r', x.toCome = some r' → r ≤ r') :
    earliestRelease now (front ++ e :: back) = some r := by
  induction front with
  | nil =>
    rw [List.nil_append, earliestRelease, Entry.dueRelease_of_due he hr]
    cases hback : earliestRelease now back with
    | none => rfl
    | some r' => simp only [min_eq_left (earliestRelease_le hb hback)]
  | cons x rest ih =>
    obtain ⟨hx, hrest⟩ := List.forall_mem_cons.mp hf
    rw [List.cons_append, earliestRelease, ih hrest]
    cases hdue : x.dueRelease now with
    | none => rfl
    | some r' => simp only [min_eq_right (hx r' (Entry.toCome_of_dueRelease hdue)).le]

/-- An entry on air has no release to come. -/
theorem earliestRelease_filter (now : Nat) (queue : List Entry) :
    earliestRelease now (queue.filter (fun x => !x.isOnAir)) = earliestRelease now queue := by
  induction queue with
  | nil => rfl
  | cons e rest ih =>
    by_cases h : e.isOnAir = true
    · have hdue : e.dueRelease now = none := by rw [Entry.dueRelease, Entry.toCome_of_onAir h]
      rw [List.filter_cons_of_neg (by simp [h]), ih]
      conv_rhs => rw [earliestRelease, hdue]
    · rw [List.filter_cons_of_pos (by simp [h]), earliestRelease, earliestRelease, ih]

theorem Entry.releases_iff {e : Entry} {r : Nat} : e.releases r = true ↔ e.toCome = some r := by
  rw [Entry.releases, beq_iff_eq]

theorem holdFirst_of_split {r : Nat} {front back : List Entry} {e : Entry} (hf : ∀ x ∈ front, x.releases r = false)
    (he : e.releases r = true) :
    holdFirst r (front ++ e :: back) =
      front ++ { e with bid := e.bid.map (fun b => { b with held := true }) } :: back := by
  induction front with
  | nil => simp [holdFirst, he]
  | cons x rest ih =>
    obtain ⟨hx, hrest⟩ := List.forall_mem_cons.mp hf
    simp [holdFirst, hx, ih hrest]

/-! ## The release is taken -/

section

variable {s : State} {front back : List Entry} {e : Entry} {b : BidTimes}

theorem State.releaseBid_of_split (hq : s.uls.queue = front ++ e :: back) (hb : e.bid = some b)
    (he : e.releases b.release = true) (hf : ∀ x ∈ front, x.releases b.release = false) :
    s.releaseBid b.release =
      if s.link.mode = .locked then
        if s.bidMayStart e b then
          (s.setUls { s.uls with queue := front ++ { e with mark := .onAir } :: back }).endAccess.key .entry
            e.kind.code e.body
        else
          (s.setUls
            { s.uls with queue := front ++ back, bidsLost := countUp s.uls.bidsLost }).endAccess
      else
        s.setUls { s.uls with queue := front ++ { e with bid := some { b with held := true } } :: back } := by
  have hfind : s.uls.queue.find? (Entry.releases b.release) = some e := by
    rw [hq]
    exact find?_of_split hf he
  have hmark : markFirst (Entry.releases b.release) .onAir s.uls.queue = front ++ { e with mark := .onAir } :: back := by
    rw [hq]
    exact markFirst_of_split hf he _
  have herase : s.uls.queue.eraseP (Entry.releases b.release) = front ++ back := by
    rw [hq]
    exact eraseP_of_split hf he
  have hhold : holdFirst b.release s.uls.queue =
      front ++ { e with bid := some { b with held := true } } :: back := by
    rw [hq, holdFirst_of_split hf he, hb]
    rfl
  simp only [State.releaseBid, hfind, hb, hmark, State.loseBid, herase, hhold]

theorem State.bidRelease_of_due {r : Nat} (h : earliestRelease s.now s.uls.queue = some r) :
    s.bidRelease = (s.settleTx.releaseBid r).choose := by
  rw [State.bidRelease, h]

theorem State.bidDeadline_of_split (hq : s.uls.queue = front ++ e :: back) (he : e.pastDeadline s.now = true)
    (hf : ∀ x ∈ front, x.pastDeadline s.now = false) :
    s.bidDeadline =
      (s.setUls { s.uls with queue := front ++ back, bidsLost := countUp s.uls.bidsLost }).choose := by
  have hany : s.uls.queue.any (Entry.pastDeadline s.now) = true := by
    rw [hq]
    exact List.any_eq_true.mpr ⟨e, List.mem_append_right _ List.mem_cons_self, he⟩
  rw [State.bidDeadline, if_pos hany, State.loseBid, hq, eraseP_of_split hf he]

theorem State.bidDeadline_of_none (h : ∀ x ∈ s.uls.queue, x.pastDeadline s.now = false) : s.bidDeadline = s := by
  rw [State.bidDeadline, if_neg]
  rw [Bool.not_eq_true, List.any_eq_false]
  exact fun x hx => Bool.eq_false_iff.mp (h x hx)

theorem Entry.pastDeadline_eq_false {e : Entry} {now : Nat}
    (h : ∀ c, e.bid = some c → e.mark = .onAir ∨ now < c.deadline) : e.pastDeadline now = false := by
  unfold Entry.pastDeadline
  split
  next c hc =>
    rcases h c hc with h | h
    · rw [Entry.isOnAir_iff.mpr h, Bool.not_true, Bool.and_false]
    · rw [decide_eq_false (by omega), Bool.false_and]
  next => rfl

/-! ## A completion due is made first -/

theorem State.entryCompleted_eq (s : State) (e : Entry) : ∃ o c, s.entryCompleted e = (s.setOffers o).setCab c := by
  have hself : ∃ o c, s = (s.setOffers o).setCab c := ⟨s.offers, s.cab, rfl⟩
  unfold State.entryCompleted
  split
  · unfold State.bidCompleted
    split
    · split
      · obtain ⟨c, -, h⟩ := State.raise_eq (s.setOffers _) .offer _ _
        exact ⟨_, c, h⟩
      · exact hself
    · exact hself
  · exact hself

theorem State.beaconCompleted_eq (s : State) : ∃ m c, s.beaconCompleted = (s.setEmu m).setCab c := by
  have hnotice : ∀ q : State, ∃ c, (if q.emu.covert then q
      else q.emergencyNotice .beaconSent q.emu.state q.emu.episode q.emu.beacons) = q.setCab c := by
    intro q
    split
    · exact ⟨q.cab, rfl⟩
    · obtain ⟨c, -, h⟩ := q.raise_eq .emergency _ _
      exact ⟨c, h⟩
  unfold State.beaconCompleted
  by_cases hc : s.emu.inCall = true
  · rw [if_pos hc]
    exact ⟨_, hnotice (s.setEmu _)⟩
  · rw [if_neg hc]
    exact ⟨s.emu, s.cab, rfl⟩

/-- What telling the owner of an item leaves: of the queue, all but the entry on air. -/
theorem State.itemCompleted_frame (s : State) (item : TxItem) :
    ((s.itemCompleted item).uls.queue = s.uls.queue
        ∨ (s.itemCompleted item).uls.queue = s.uls.queue.filter (fun x => !x.isOnAir))
      ∧ (s.itemCompleted item).uls.sched = s.uls.sched ∧ (s.itemCompleted item).ms = s.ms
      ∧ (s.itemCompleted item).vdd = s.vdd ∧ (s.itemCompleted item).op = s.op := by
  cases item with
  | entry =>
    cases hfind : s.uls.queue.find? Entry.isOnAir with
    | some e =>
      obtain ⟨o, c, h⟩ := (s.setUls { s.uls with queue := s.uls.queue.filter (fun x => !x.isOnAir) }).entryCompleted_eq e
      simp only [State.itemCompleted, hfind]
      rw [h]
      exact ⟨.inr rfl, rfl, rfl, rfl, rfl⟩
    | none =>
      have hself : s.itemCompleted .entry = s := by simp only [State.itemCompleted, hfind]
      rw [hself]
      exact ⟨.inl rfl, rfl, rfl, rfl, rfl⟩
  | trip n => exact ⟨.inl rfl, rfl, rfl, rfl, rfl⟩
  | beacon =>
    obtain ⟨m, c, h⟩ := s.beaconCompleted_eq
    simp only [State.itemCompleted]
    rw [h]
    exact ⟨.inl rfl, rfl, rfl, rfl, rfl⟩

theorem airTime_pos {rate : Nat} (bytes : Nat) (h : 0 < rate) : 0 < airTime rate bytes := by
  have hbits : (48 + 8 * (6 + bytes + 2)) * 1000 ≤ airTime rate bytes * rate := (ceilDiv_bounds _ h).1
  refine Nat.pos_of_ne_zero fun h0 => ?_
  rw [h0, Nat.zero_mul] at hbits
  omega

/-- While a release that is due is still to be taken no item fits, and a choice picks none (R42, log entry 9). -/
theorem State.choose_of_release {x : Entry} {r : Nat} (hrate : 0 < s.op.bitRate) (hx : x ∈ s.uls.queue)
    (hcome : x.toCome = some r) (hr : r ≤ s.now) : s.choose = s := by
  refine State.choose_of_no_item fun i hi => ?_
  have hair : 0 < i.air := by
    rcases s.items_air hi with ⟨-, y, -, -, hair⟩ | ⟨-, hair⟩ | ⟨-, hair⟩
    · rw [hair]
      exact airTime_pos _ hrate
    · rw [hair]
      exact airTime_pos _ hrate
    · rw [hair]
      exact airTime_pos _ hrate
  have hnot : ¬ s.uls.fits (s.now + s.op.clear + i.air) = true := by
    intro hfit
    have hall := List.all_eq_true.mp hfit x hx
    rw [hcome] at hall
    have hle : s.now + s.op.clear + i.air ≤ r := by simpa [absentOr] using hall
    omega
  exact Bool.eq_false_iff.mpr hnot

end

end Sys2Proof.Machine

section
open Sys2Proof Sys2Proof.Machine

/-- Settles O17: the release that is due finds its BID, and the link, CD and the air time decide what becomes of it;
the deadline takes one that has not started. -/
theorem bidTakesItsSlot : Obligations.BidTakesItsSlot := by
  refine ⟨fun q => ⟨State.endAccess_of_no_access, fun ha h => State.endAccess_of_no_candidate h ha,
    fun front x back ha hq hx hf => State.endAccess_of_split ha hq hx hf⟩,
    fun s t front back e b hv hq hb => ⟨fun hm hh hr hf hback => ?_, fun h => ?_, fun hm hd hf => ?_, fun h => ?_⟩⟩
  · have huls : (s.advanceTo t).uls = s.uls := s.advanceTo_uls t
    have hcome := Entry.toCome_of_waiting hb hm hh
    have hearliest : earliestRelease (s.advanceTo t).now (s.advanceTo t).uls.queue = some b.release := by
      rw [huls, hq]
      exact earliestRelease_of_split hcome hr hf hback
    have hrelease : exec (.bidRelease t) s = .next ((s.advanceTo t).settleTx.releaseBid b.release).choose := by
      rw [exec_of_event hv (exec_bidRelease t s), State.bidRelease_of_due hearliest]
    refine ⟨fun tx s' hs hd hrate hexec => ?_, fun hrun => ?_⟩
    · set q := (s.advanceTo t).offAir.itemCompleted tx.item with hqdef
      have hsettle : (s.advanceTo t).settleTx = q.choose := State.settleTx_of_due (huls ▸ hs) hd
      have hs' : s' = q.choose := by
        rw [exec_transmissionComplete_of_due hv hs hd] at hexec
        cases hexec
        rfl
      obtain ⟨hqueue, hsched, hms, hvdd, hop⟩ := (s.advanceTo t).offAir.itemCompleted_frame tx.item
      rw [← hqdef] at hqueue hsched hms hvdd hop
      have hnow : q.now = (s.advanceTo t).now := congrArg BitVec.toNat hms
      have hqueue' : (s.advanceTo t).offAir.uls.queue = s.uls.queue := by
        rw [State.offAir, State.setUls_uls, huls]
      rw [hqueue'] at hqueue
      have hmem : e ∈ q.uls.queue := by
        have he : e ∈ s.uls.queue := by
          rw [hq]
          exact List.mem_append_right _ List.mem_cons_self
        rcases hqueue with h | h
        · rw [h]
          exact he
        · rw [h]
          refine List.mem_filter.mpr ⟨he, ?_⟩
          rw [Entry.isOnAir_eq_false.mpr (by rw [hm]; exact nofun)]
          rfl
      have hearliest' : earliestRelease q.now q.uls.queue = some b.release := by
        rw [hnow, ← hearliest, huls]
        rcases hqueue with h | h
        · rw [h]
        · rw [h, earliestRelease_filter]
      have hchoose : q.choose = q := by
        refine State.choose_of_release ?_ hmem hcome (hnow ▸ hr)
        rw [hop]
        exact (s.op_advanceTo t).symm ▸ hrate
      have hptt : q.ptt = false := by
        rw [State.ptt, hsched]
        rfl
      rw [hchoose] at hs' hsettle
      subst hs'
      rw [hrelease, hsettle, exec_of_event (hvdd.trans ((s.advanceTo_vdd t).trans hv)) (exec_bidRelease t _),
        State.advanceTo_of_ms (s := s) hms, State.bidRelease_of_due hearliest', State.settleTx_of_ptt hptt]
    · have hsettle : (s.advanceTo t).settleTx = s.advanceTo t := by
        cases hs : s.uls.sched with
        | onAir tx => exact State.settleTx_of_running (huls ▸ hs) (hrun tx hs)
        | _ => exact State.settleTx_of_ptt (by rw [State.ptt, huls, hs])
      have htaken := State.releaseBid_of_split (s := s.advanceTo t) (huls ▸ hq) hb (Entry.releases_iff.mpr hcome)
        fun x hx => by
          rw [← Bool.not_eq_true, Entry.releases_iff]
          exact fun hx' => absurd (hf x hx _ hx') (Nat.lt_irrefl _)
      have hptt : (s.advanceTo t).ptt = s.ptt := State.ptt_of_uls huls
      rw [hsettle, htaken, State.advanceTo_link, huls] at hrelease
      have hmay : (s.advanceTo t).bidMayStart e b = true
          ↔ s.ptt = false ∧ s.cd = false ∧ b.release + s.airTime e.body.length ≤ b.deadline := by
        rw [State.bidMayStart_iff, hptt, State.advanceTo_cd, State.airTime_advanceTo]
      refine ⟨fun hl hp hc hfit => ?_, fun hl hno => ?_, fun hl => ?_⟩
      · rw [hrelease, if_pos hl, if_pos (hmay.mpr ⟨hp, hc, hfit⟩), State.choose_of_ptt rfl]
      · rw [hrelease, if_pos hl, if_neg]
        · rfl
        rw [hmay]
        rintro ⟨hp, hc, hfit⟩
        rcases hno with h | h | h
        · rw [hp] at h
          cases h
        · rw [hc] at h
          cases h
        · omega
      · rw [hrelease, if_neg hl, State.choose_of_not]
        exact fun h => hl ((s.advanceTo_link t) ▸ h.2)
  · rw [exec_of_event hv (exec_bidRelease t s), State.bidRelease, earliestRelease_of_none]
    rw [State.advanceTo_uls]
    intro x hx
    unfold Entry.dueRelease
    split
    next r hr => rw [if_neg (by have := h x hx r hr; omega)]
    next => rfl
  · have hpast : e.pastDeadline (s.advanceTo t).now = true := by
      rw [Entry.pastDeadline, hb]
      simp [Entry.isOnAir_eq_false.mpr hm, hd]
    rw [exec_of_event hv (exec_bidDeadline t s),
      State.bidDeadline_of_split ((s.advanceTo_uls t).symm ▸ hq) hpast fun x hx => Entry.pastDeadline_eq_false (hf x hx),
      State.advanceTo_uls]
    rfl
  · rw [exec_of_event hv (exec_bidDeadline t s), State.bidDeadline_of_none]
    rw [State.advanceTo_uls]
    exact fun x hx => Entry.pastDeadline_eq_false (h x hx)

end
end

section
/-!
PROOFS. How an uplink joins the queue (R34 to R36).
-/

namespace Sys2Proof.Machine

/-! ## The entry that is displaced (R36) -/

/-- No entry off the air has a level below the lowest. -/
theorem lowestLevel_ge {least l : Nat} {queue : List Entry} (h : ∀ x ∈ queue, x.mark ≠ .onAir → least ≤ x.level)
    (hl : lowestLevel queue = some l) : least ≤ l := by
  induction queue generalizing l with
  | nil => cases hl
  | cons e rest ih =>
    obtain ⟨he, hrest⟩ := List.forall_mem_cons.mp h
    unfold lowestLevel at hl
    split at hl
    · exact ih hrest hl
    next hair =>
      have hle := he (Entry.isOnAir_eq_false.mp (Bool.eq_false_of_not_eq_true hair))
      split at hl
      next =>
        cases hl
        exact hle
      next l' hrestl =>
        cases hl
        exact le_min hle (ih hrest hrestl)

theorem lowestLevel_of_split {front back : List Entry} {x : Entry} (hx : x.mark ≠ .onAir)
    (hf : ∀ y ∈ front, y.mark ≠ .onAir → x.level ≤ y.level)
    (hb : ∀ y ∈ back, y.mark ≠ .onAir → x.level ≤ y.level) :
    lowestLevel (front ++ x :: back) = some x.level := by
  induction front with
  | nil =>
    rw [List.nil_append, lowestLevel, if_neg (by rw [Entry.isOnAir_iff]; exact hx)]
    cases h : lowestLevel back with
    | none => rfl
    | some l => simp only [min_eq_left (lowestLevel_ge hb h)]
  | cons y rest ih =>
    obtain ⟨hy, hrest⟩ := List.forall_mem_cons.mp hf
    rw [List.cons_append, lowestLevel, ih hrest]
    split
    · rfl
    next hair =>
      simp only [min_eq_right (hy (Entry.isOnAir_eq_false.mp (Bool.eq_false_of_not_eq_true hair)))]

theorem latestOfLevel_of_none {level start : Nat} {queue : List Entry}
    (h : ∀ y ∈ queue, y.mark ≠ .onAir → y.level ≠ level) : latestOfLevel level start queue = none := by
  induction queue generalizing start with
  | nil => rfl
  | cons e rest ih =>
    obtain ⟨he, hrest⟩ := List.forall_mem_cons.mp h
    rw [latestOfLevel, ih hrest]
    refine if_neg fun hc => ?_
    exact he (Entry.isOnAir_eq_false.mp hc.2) hc.1

theorem latestOfLevel_of_split {start : Nat} {front back : List Entry} {x : Entry} (hx : x.mark ≠ .onAir)
    (hb : ∀ y ∈ back, y.mark ≠ .onAir → y.level ≠ x.level) :
    latestOfLevel x.level start (front ++ x :: back) = some (start + front.length) := by
  induction front generalizing start with
  | nil =>
    rw [List.nil_append, latestOfLevel, latestOfLevel_of_none hb]
    exact if_pos ⟨rfl, Entry.isOnAir_eq_false.mpr hx⟩
  | cons y rest ih =>
    rw [List.cons_append, latestOfLevel, ih, List.length_cons]
    simp only [Option.some.injEq]
    omega

theorem Uls.displaceable_of_none {u : Uls} {level : Nat}
    (h : ∀ x ∈ u.queue, x.mark ≠ .onAir → level ≤ x.level) : u.displaceable level = none := by
  unfold Uls.displaceable
  split
  next l hl => rw [if_neg (Nat.not_lt_of_le (lowestLevel_ge h hl))]
  next => rfl

theorem Uls.displaceable_of_split {u : Uls} {level : Nat} {front back : List Entry} {x : Entry}
    (hq : u.queue = front ++ x :: back) (hx : x.mark ≠ .onAir) (hl : x.level < level)
    (hf : ∀ y ∈ front, y.mark ≠ .onAir → x.level ≤ y.level)
    (hb : ∀ y ∈ back, y.mark ≠ .onAir → x.level < y.level) : u.displaceable level = some front.length := by
  have hlowest := lowestLevel_of_split hx hf fun y hy hy' => (hb y hy hy').le
  have hlatest := latestOfLevel_of_split (start := 0) (front := front) hx fun y hy hy' => (hb y hy hy').ne'
  rw [Nat.zero_add] at hlatest
  rw [Uls.displaceable, hq, hlowest]
  simp only [hl, if_true, hlatest]

/-- The displaced entry leaves; an access of its own ends with it (R36, R47). -/
theorem State.displaceAt_of_split {s : State} {front back : List Entry} {x : Entry}
    (hq : s.uls.queue = front ++ x :: back)
    (hc : x.mark = .candidate → ∀ y ∈ front ++ back, y.mark ≠ .candidate) :
    s.displaceAt front.length =
      s.setUls
        { s.uls with
          queue := front ++ back
          sched := if x.mark = .candidate ∧ s.uls.sched.inAccess = true then .idle else s.uls.sched } := by
  have hget : s.uls.queue[front.length]? = some x := by
    rw [hq, List.getElem?_append_right (Nat.le_refl _), Nat.sub_self]
    rfl
  have herase : ∀ y : Entry, (front ++ y :: back).eraseIdx front.length = front ++ back := fun y => by
    rw [List.eraseIdx_append_of_length_le (Nat.le_refl _), Nat.sub_self, List.eraseIdx_cons_zero]
  unfold State.displaceAt
  simp only [hget, Option.map_some, Option.getD_some]
  by_cases hm : x.mark = .candidate
  · rw [if_pos (Entry.isCandidate_iff.mpr hm)]
    by_cases ha : s.uls.sched.inAccess = true
    · rw [State.endAccess_of_split ha hq hm fun y hy => hc hm y (List.mem_append_left _ hy), if_pos ⟨hm, ha⟩,
        State.setUls_setUls, State.setUls_uls, herase]
    · rw [State.endAccess_of_no_access (Bool.eq_false_of_not_eq_true ha), if_neg fun h => ha h.2, hq, herase]
  · rw [if_neg (by rw [Entry.isCandidate_iff]; exact hm), if_neg fun h => hm h.1, hq, herase]

/-! ## The join (R34, R35) -/

section

variable {s : State}

theorem State.joinNew_of_room {e : Entry} (h : s.uls.queue.length < Config.queueMax) :
    s.joinNew e = { state := (s.setUls { s.uls with queue := s.uls.queue ++ [e] }).choose, joined := true } := by
  rw [State.joinNew, if_pos h]
  rfl

theorem State.joinNew_of_full {e : Entry} (h : ¬ s.uls.queue.length < Config.queueMax)
    (hd : s.uls.displaceable e.level = none) : s.joinNew e = { state := s.countDisplaced, joined := false } := by
  rw [State.joinNew, if_neg h, hd]

theorem State.joinNew_of_displaceable {e : Entry} {index : Nat} (h : ¬ s.uls.queue.length < Config.queueMax)
    (hd : s.uls.displaceable e.level = some index) :
    s.joinNew e = { state := ((s.displaceAt index).countDisplaced.append e).choose, joined := true } := by
  rw [State.joinNew, if_neg h, hd]

/-- A kind that the queue holds nowhere, or of which it may hold many, joins as a new entry. -/
theorem State.join_of_fresh {kind : UplinkKind} (h : kind.single = false ∨ ∀ x ∈ s.uls.queue, x.kind ≠ kind)
    (body : List Byte) (bid : Option BidTimes) : s.join kind body bid = s.joinNew (s.newEntry kind body bid) := by
  unfold State.join
  split
  next hs =>
    have hnone : ∀ x ∈ s.uls.queue, x.kind ≠ kind := h.resolve_left (by rw [hs]; decide)
    have hwaits : ¬ s.uls.queue.any (Entry.waits kind) = true := by
      rw [Bool.not_eq_true, List.any_eq_false]
      intro x hx
      simp [Entry.waits, hnone x hx]
    have hfilter : s.uls.queue.filter (fun e => !e.flies kind) = s.uls.queue := by
      refine List.filter_eq_self.mpr fun x hx => ?_
      simp [Entry.flies, hnone x hx]
    rw [if_neg hwaits, hfilter]
    rfl
  next => rfl

theorem replaceBody_of_split {kind : UplinkKind} {body : List Byte} {front back : List Entry} {x : Entry}
    (hx : x.waits kind = true) (hf : ∀ y ∈ front, y.waits kind = false) :
    replaceBody kind body (front ++ x :: back) = front ++ { x with body := body } :: back := by
  induction front with
  | nil => simp [replaceBody, hx]
  | cons y rest ih =>
    obtain ⟨hy, hrest⟩ := List.forall_mem_cons.mp hf
    simp [replaceBody, hy, ih hrest]

end

end Sys2Proof.Machine

section
open Sys2Proof Sys2Proof.Machine

/-- Settles O11: by the room in the queue, the entry that is displaced, and the entry of the same kind. -/
theorem uplinkJoinsQueue : Obligations.UplinkJoinsQueue := by
  intro s kind body bid
  refine ⟨fun hfresh hroom => ?_, fun hfresh hfull hlow => ?_, fun front x back hfresh hfull hq hx hl hf hb hc => ?_,
    fun front x back hs hq hk hx hother hlen => ?_, fun front x back hs hq hk hx hf => ?_⟩
  · rw [State.join_of_fresh hfresh, State.joinNew_of_room hroom]
    rfl
  · rw [State.join_of_fresh hfresh, State.joinNew_of_full (Nat.not_lt_of_le hfull)
      (Uls.displaceable_of_none (level := (s.newEntry kind body bid).level) hlow)]
    rfl
  · rw [State.join_of_fresh hfresh, State.joinNew_of_displaceable (Nat.not_lt_of_le hfull)
      (Uls.displaceable_of_split (level := (s.newEntry kind body bid).level) hq hx hl hf hb),
      State.displaceAt_of_split hq hc]
    rfl
  · have hwaits : ¬ s.uls.queue.any (Entry.waits kind) = true := by
      rw [Bool.not_eq_true, List.any_eq_false, hq]
      intro y hy
      rcases List.mem_append.mp hy with hy | hy
      · simp [Entry.waits, hother y (List.mem_append_left _ hy)]
      · rcases List.mem_cons.mp hy with rfl | hy
        · simp [Entry.waits, Entry.isOnAir_iff.mpr hx]
        · simp [Entry.waits, hother y (List.mem_append_right _ hy)]
    have hfilter : s.uls.queue.filter (fun e => !e.flies kind) = front ++ back := by
      rw [hq]
      refine filter_of_split (fun y hy => ?_) ?_
      · simp [Entry.flies, hother y hy]
      · simp [Entry.flies, hk, Entry.isOnAir_iff.mpr hx]
    have hroom : (front ++ back).length < 12 := by
      rw [hq, List.length_append, List.length_cons] at hlen
      rw [List.length_append]
      omega
    rw [State.join, if_pos hs, if_neg hwaits, hfilter]
    exact State.joinNew_of_room (s := s.setUls { s.uls with queue := front ++ back }) hroom
  · have hwaits : x.waits kind = true := by simp [Entry.waits, hk, Entry.isOnAir_eq_false.mpr hx]
    have hany : s.uls.queue.any (Entry.waits kind) = true := by
      rw [hq]
      exact List.any_eq_true.mpr ⟨x, List.mem_append_right _ List.mem_cons_self, hwaits⟩
    have hbefore : ∀ y ∈ front, y.waits kind = false := by
      intro y hy
      by_cases hy' : y.kind = kind
      · simp [Entry.waits, Entry.isOnAir_iff.mpr (hf y hy hy')]
      · simp [Entry.waits, hy']
    rw [State.join, if_pos hs, if_pos hany, hq, replaceBody_of_split hwaits hbefore]

end
end

section
/-!
PROOFS. The offer table (chapter 5).
-/

namespace Sys2Proof.Machine

/-! ## Commands that are taken -/

section

variable {i : Instr} {s : State} {t : Stamp}

theorem exec_of_request (h : s.takes) {kind : Byte} {act : State → Answer}
    (he : exec i s = .next (s.request t kind act)) {a : Answer} (ha : act (s.advanceTo t).toHunt = a) :
    exec i s = .next (a.state.respond kind a.code a.fields) := by
  subst ha
  exact he.trans (congrArg Host.Outcome.next (State.request_of_takes h t kind act))

theorem exec_of_hears (hv : s.vdd = true) {rx : List Byte} {g : Telegram} (hg : (s.advanceTo t).hears rx g)
    {kind : DownKind} (he : exec i s = .next (s.telegram t rx (Telegram.isKind kind))) (hk : g.kind = kind) :
    exec i s = .next ((s.advanceTo t).afterReport g.site (State.handOver g ((s.advanceTo t).found g.site))) := by
  rw [he, State.telegram_of_hears hv hg (Telegram.isKind_of hk)]

/-- A request refused leaves the state as it is, but for the reply. -/
theorem exec_of_refused (h : s.takes) {kind : Byte} {act : State → Answer}
    (he : exec i s = .next (s.request t kind act)) {code : RespCode}
    (ha : act (s.advanceTo t).toHunt = (s.advanceTo t).toHunt.refuse code) :
    exec i s = .next ((s.advanceTo t).replied kind code []) :=
  exec_of_request h he ha

end

@[simp] theorem State.toHunt_dcu (s : State) : s.toHunt.dcu = s.dcu := rfl
@[simp] theorem State.toHunt_emu (s : State) : s.toHunt.emu = s.emu := rfl
@[simp] theorem State.toHunt_uls (s : State) : s.toHunt.uls = s.uls := rfl
@[simp] theorem State.toHunt_zone (s : State) : s.toHunt.zone = s.zone := rfl
@[simp] theorem State.toHunt_offers (s : State) : s.toHunt.offers = s.offers := rfl
@[simp] theorem State.toHunt_jobs (s : State) : s.toHunt.jobs = s.jobs := rfl
@[simp] theorem State.toHunt_meter (s : State) : s.toHunt.meter = s.meter := rfl
@[simp] theorem State.toHunt_trips (s : State) : s.toHunt.trips = s.trips := rfl
@[simp] theorem State.toHunt_msgs (s : State) : s.toHunt.msgs = s.msgs := rfl
@[simp] theorem State.toHunt_now (s : State) : s.toHunt.now = s.now := rfl
@[simp] theorem State.toHunt_op (s : State) : s.toHunt.op = s.op := rfl

theorem Half.toNat_eq_zero_iff {n : Half} : n.toNat = 0 ↔ n = 0 := by
  rw [← BitVec.toNat_inj]
  rfl

/-! ## The table -/

theorem Offers.find_isSome_iff {o : Offers} {number : Nat} :
    (o.find number).isSome = true ↔ ∃ x ∈ o.table, x.number = number := by
  rw [Offers.find, List.find?_isSome]
  simp only [beq_iff_eq]

theorem Offers.find_number {o : Offers} {number : Nat} {e : OfferEntry} (h : o.find number = some e) :
    e.number = number := by
  simpa using List.find?_some h

theorem earliestOffered_of_none {table : List OfferEntry} (h : ∀ x ∈ table, x.state ≠ .offered) :
    earliestOffered table = none := by
  induction table with
  | nil => rfl
  | cons e rest ih =>
    obtain ⟨he, hrest⟩ := List.forall_mem_cons.mp h
    rw [earliestOffered, ih hrest]
    exact if_neg he

theorem earliestOffered_state {table : List OfferEntry} {e : OfferEntry} (h : earliestOffered table = some e) :
    e ∈ table ∧ e.state = .offered := by
  induction table generalizing e with
  | nil => cases h
  | cons x rest ih =>
    have hlater : earliestOffered rest = some e → e ∈ x :: rest ∧ e.state = .offered := fun h =>
      ⟨List.mem_cons_of_mem _ (ih h).1, (ih h).2⟩
    unfold earliestOffered at h
    split at h
    · split at h
      next hx =>
        cases h
        exact ⟨List.mem_cons_self, hx⟩
      next => cases h
    next r hr =>
      split at h
      next hx =>
        cases h
        exact ⟨List.mem_cons_self, hx.1⟩
      next =>
        cases h
        exact hlater hr

/-- Of the OFFERED entries the one with the earliest decision deadline, the first of equals (R73). -/
theorem earliestOffered_of_split {front back : List OfferEntry} {x : OfferEntry} (hx : x.state = .offered)
    (hf : ∀ y ∈ front, y.state = .offered → x.decision < y.decision)
    (hb : ∀ y ∈ back, y.state = .offered → x.decision ≤ y.decision) :
    earliestOffered (front ++ x :: back) = some x := by
  induction front with
  | nil =>
    rw [List.nil_append, earliestOffered]
    cases h : earliestOffered back with
    | none => exact if_pos hx
    | some r =>
      obtain ⟨hmem, hr⟩ := earliestOffered_state h
      exact if_pos ⟨hx, hb r hmem hr⟩
  | cons y rest ih =>
    obtain ⟨hy, hrest⟩ := List.forall_mem_cons.mp hf
    rw [List.cons_append, earliestOffered, ih hrest]
    refine if_neg fun h => ?_
    have := hy h.1
    omega

theorem Offers.remove_of_split {o : Offers} {front back : List OfferEntry} {x : OfferEntry}
    (ht : o.table = front ++ x :: back) (hother : ∀ y ∈ front ++ back, y.number ≠ x.number) :
    o.remove x.number = { o with table := front ++ back } := by
  have hkeep : ∀ l : List OfferEntry, (∀ y ∈ l, y ∈ front ++ back) → l.filter (fun y => y.number != x.number) = l :=
    fun l hl => List.filter_eq_self.mpr fun y hy => by simpa using hother y (hl y hy)
  rw [Offers.remove, ht, List.filter_append, List.filter_cons_of_neg (by simp),
    hkeep front fun y hy => List.mem_append_left _ hy, hkeep back fun y hy => List.mem_append_right _ hy]

/-! ## An OFFER (R69 to R73) -/

theorem hasAttributes_iff {need held : BitVec 8} : hasAttributes need held = true ↔ need &&& held = need := by
  rw [hasAttributes, beq_iff_eq]

theorem State.reaches_iff {s : State} {zone : Nat} {reach : Bool} :
    s.reaches zone reach = true ↔ zone = s.zone.zone ∨ (reach = true ∧ zone ∈ s.neighbours s.zone.zone) := by
  simp [State.reaches]

/-- The conditions of R71, one by one. -/
theorem State.eligible_iff {s : State} {o : OfferBody} {cls : MatchClass} :
    s.eligible o cls = true
      ↔ s.dcu.barred = false ∧ s.meter.mode ≠ .offShift ∧ s.emu.overtCall = false
        ∧ o.required &&& s.address.attributes = o.required ∧ s.zone.zone ≠ 0
        ∧ (o.zone = s.zone.zone ∨ (o.reach = true ∧ o.zone ∈ s.neighbours s.zone.zone))
        ∧ (cls = .neighbour → o.reach = true)
        ∧ (o.kind = .street → s.meter.mode = .vacant ∧ s.jobs.active = none) := by
  have hclass : (cls != .neighbour || o.reach) = true ↔ (cls = .neighbour → o.reach = true) := by
    rw [Bool.or_eq_true, bne_iff_ne, ← imp_iff_not_or]
  have hkind : (o.kind != .street || (s.meter.mode == .vacant && s.jobs.active.isNone)) = true
      ↔ (o.kind = .street → s.meter.mode = .vacant ∧ s.jobs.active = none) := by
    rw [Bool.or_eq_true, bne_iff_ne, Bool.and_eq_true, beq_iff_eq, Option.isNone_iff_eq_none, ← imp_iff_not_or]
  rw [State.eligible]
  simp only [Bool.and_eq_true, Bool.not_eq_true', bne_iff_ne, hasAttributes_iff, State.reaches_iff, hclass, hkind,
    and_assoc]

section

variable {s : State} {o : OfferBody} {cls : MatchClass}

theorem State.takeOffer_of_not_inRange (h : o.inRange = false) : s.takeOffer o cls = s.passOffer := by
  rw [State.takeOffer, h]
  rfl

theorem State.takeOffer_of_held (h : o.inRange = true) (hheld : ∃ x ∈ s.offers.table, x.number = o.number) :
    s.takeOffer o cls = s := by
  rw [State.takeOffer, h, if_neg (by decide), if_pos (Offers.find_isSome_iff.mpr hheld)]

theorem State.takeOffer_of_not_eligible (h : o.inRange = true)
    (hheld : ¬ ∃ x ∈ s.offers.table, x.number = o.number) (he : ¬ s.eligible o cls = true) :
    s.takeOffer o cls = s.passOffer := by
  rw [State.takeOffer, h, if_neg (by decide), if_neg (by rw [Offers.find_isSome_iff]; exact hheld),
    Bool.eq_false_of_not_eq_true he]
  rfl

theorem State.takeOffer_of_eligible (h : o.inRange = true)
    (hheld : ¬ ∃ x ∈ s.offers.table, x.number = o.number) (he : s.eligible o cls = true) :
    s.takeOffer o cls = s.takeEligible o := by
  rw [State.takeOffer, h, if_neg (by decide), if_neg (by rw [Offers.find_isSome_iff]; exact hheld), he]
  rfl

theorem State.takeEligible_of_room (h : s.offers.table.length < Config.offersMax) :
    s.takeEligible o = s.addOffer (s.offerEntry o) := by
  rw [State.takeEligible, if_pos h]

theorem State.takeEligible_of_displaced (h : Config.offersMax ≤ s.offers.table.length) {x : OfferEntry}
    (hx : earliestOffered s.offers.table = some x) :
    s.takeEligible o = (s.displaceOffer.dropOffer x .displaced).addOffer (s.offerEntry o) := by
  rw [State.takeEligible, if_neg (Nat.not_lt_of_le h), hx]

theorem State.takeEligible_of_none (h : Config.offersMax ≤ s.offers.table.length)
    (hx : earliestOffered s.offers.table = none) : s.takeEligible o = s.displaceOffer := by
  rw [State.takeEligible, if_neg (Nat.not_lt_of_le h), hx]

end

/-! ## ACCEPT (R76 to R78) -/

theorem exec_accept (t : Stamp) (n : Half) (s : State) :
    exec (.accept t n) s = .next (s.request t 0x02 fun s => s.accept n.toNat) := rfl

section

variable {s : State} {number : Nat}

theorem State.accept_of_refusal {code : RespCode} (h : s.acceptRefusal number = some code) :
    s.accept number = s.refuse code := by
  rw [State.accept, h]

theorem State.accept_of_passes {e : OfferEntry} (h : s.acceptRefusal number = none)
    (he : s.offers.find number = some e) : s.accept number = (s.acceptOffer e).doneWith [] := by
  rw [State.accept, h, he]

theorem OfferEntry.any_pledged_iff {table : List OfferEntry} {kind : JobKind} :
    table.any (OfferEntry.pledged kind) = true
      ↔ 0 < table.countP (fun x => x.kind == kind && x.state != .offered) := by
  rw [List.countP_pos_iff, List.any_eq_true]
  exact Iff.rfl

/-- The tests that follow once the number names an entry (R76). -/
theorem State.acceptRefusal_of_found {e : OfferEntry} (hn : number ≠ 0) (hb : ¬ s.dcu.barred = true)
    (hc : ¬ s.emu.overtCall = true) (he : s.offers.find number = some e) :
    s.acceptRefusal number =
      if e.state ≠ .offered ∨ e.decision ≤ s.now then some .state
      else if e.kind = .street ∧ 0 < s.offers.table.countP (fun x => x.kind == .street && x.state != .offered) then
        some .full
      else if e.kind = .street ∧ (s.meter.mode ≠ .vacant ∨ s.jobs.active ≠ none) then some .state
      else if e.kind = .prebook
          ∧ 2 ≤ s.jobs.queued.length + s.offers.table.countP (fun x => x.kind == .prebook && x.state != .offered) then
        some .full
      else none := by
  rw [State.acceptRefusal, if_neg hn, if_neg hb, if_neg hc, he]
  simp only [State.reached_iff, OfferEntry.any_pledged_iff]
  refine if_congr Iff.rfl rfl ?_
  cases e.kind with
  | street => simp only [true_and, reduceCtorEq, false_and, if_false, Option.isSome_iff_ne_none]
  | prebook =>
    simp only [true_and, reduceCtorEq, false_and, if_false]
    rfl

theorem State.acceptOffer_of_covert (h : s.emu.covertCall = true) (e : OfferEntry) :
    s.acceptOffer e = s.setOffers (s.offers.put { e with state := .accepted }) := by
  unfold State.acceptOffer
  exact if_pos h

/-- Outside a covert call a draw gives the slot of the BID, which joins the queue (R77). -/
theorem State.acceptOffer_of_open (h : ¬ s.emu.covertCall = true) (e : OfferEntry) :
    s.acceptOffer e =
      ((s.setOffers (s.offers.put { e with state := .accepted })).setUls
        { s.uls with rng := nextRng s.uls.rng }).placeBid e (drawValue (nextRng s.uls.rng) % e.window) := by
  unfold State.acceptOffer
  refine (if_neg h).trans ?_
  simp only [State.draw, State.setOffers_uls, State.setUls_uls]

theorem State.placeBid_eq (s : State) (e : OfferEntry) (slot : Nat) :
    s.placeBid e slot =
      (s.join .bid (be 2 e.number ++ be 2 s.zone.zone ++ [s.address.attributes] ++ be 1 slot)
        (some
          { offer := e.number, release := e.decision + slot * e.slot
            deadline := e.decision + slot * e.slot + e.slot, held := false })).state := rfl

end

end Sys2Proof.Machine

section
open Sys2Proof Sys2Proof.Machine

/-- Settles O21: by the tests of an OFFER in their order, and by the room in the table. -/
theorem offerJoinsTable : Obligations.OfferJoinsTable := by
  intro s t rx g hv hg hk
  have hexec := exec_of_hears (i := .offer t rx) hv hg rfl hk
  rw [State.handOver, hk] at hexec
  simp only at hexec
  simp only
  generalize (s.advanceTo t).found g.site = s1 at hexec ⊢
  have hpassed : s1.passOffer = s1.setOffers { s1.offers with passed := min 65535 (s1.offers.passed + 1) } := rfl
  refine ⟨fun h => ?_, fun h hheld => ?_, fun h hheld he => ?_, fun h hheld he hroom => ?_,
    fun h hheld he hfull hnone => ?_, fun front x back h hheld he hfull ht hx hf hb hother => ?_⟩
  · rw [hexec, State.takeOffer_of_not_inRange h, hpassed]
  · rw [hexec, State.takeOffer_of_held h hheld]
  · rw [hexec, State.takeOffer_of_not_eligible h hheld (by rw [State.eligible_iff]; exact he), hpassed]
  · rw [hexec, State.takeOffer_of_eligible h hheld (State.eligible_iff.mpr he), State.takeEligible_of_room hroom]
    rfl
  · rw [hexec, State.takeOffer_of_eligible h hheld (State.eligible_iff.mpr he),
      State.takeEligible_of_none hfull (earliestOffered_of_none hnone)]
    rfl
  · have hdrop : s1.displaceOffer.dropOffer x .displaced =
        (s1.setOffers { s1.offers with
          table := front ++ back, displaced := min 65535 (s1.offers.displaced + 1) }).offerNotice .displaced x none := by
      rw [State.dropOffer, Offers.remove_of_split (o := s1.displaceOffer.offers) ht hother]
      rfl
    have hearliest : earliestOffered s1.offers.table = some x := by rw [ht, earliestOffered_of_split hx hf hb]
    rw [hexec, State.takeOffer_of_eligible h hheld (State.eligible_iff.mpr he),
      State.takeEligible_of_displaced hfull hearliest, hdrop, State.addOffer, State.offerNotice_offers,
      State.setOffers_offers]
    rfl

/-- Settles O22: by the tests of R76 in their order; one that passes accepts the entry and places its BID. -/
theorem acceptQueuesBid : Obligations.AcceptQueuesBid := by
  intro s t n h
  have hrefused : ∀ {code}, (s.advanceTo t).toHunt.acceptRefusal n.toNat = some code →
      exec (.accept t n) s = .next ((s.advanceTo t).replied 0x02 code []) := fun hr =>
    exec_of_refused h (exec_accept t n s) (State.accept_of_refusal hr)
  have hdcu : (s.advanceTo t).toHunt.dcu = s.dcu := s.advanceTo_dcu t
  have hemu : (s.advanceTo t).toHunt.emu = s.emu := s.advanceTo_emu t
  have hoffers : (s.advanceTo t).toHunt.offers = s.offers := s.advanceTo_offers t
  have hjobs : (s.advanceTo t).toHunt.jobs = s.jobs := s.advanceTo_jobs t
  have hmeter : (s.advanceTo t).toHunt.meter = s.meter := s.advanceTo_meter t
  have huls : (s.advanceTo t).toHunt.uls = s.uls := s.advanceTo_uls t
  have hzone : (s.advanceTo t).toHunt.zone = s.zone := s.advanceTo_zone t
  have haddress : ∀ o u, (((s.advanceTo t).toHunt.setOffers o).setUls u).address = s.address := fun _ _ =>
    s.address_advanceTo t
  simp only
  by_cases hn : n = 0
  · rw [if_pos hn]
    exact hrefused (by rw [State.acceptRefusal, if_pos (Half.toNat_eq_zero_iff.mpr hn)])
  have hn' : n.toNat ≠ 0 := by rwa [ne_eq, Half.toNat_eq_zero_iff]
  by_cases hb : s.dcu.barred = true
  · rw [if_neg hn, if_pos hb]
    exact hrefused (by rw [State.acceptRefusal, if_neg hn', if_pos (by rw [hdcu]; exact hb)])
  by_cases hc : s.emu.overtCall = true
  · rw [if_neg hn, if_neg hb, if_pos hc]
    refine hrefused ?_
    rw [State.acceptRefusal, if_neg hn', if_neg (by rw [hdcu]; exact hb), if_pos (by rw [hemu]; exact hc)]
  rw [if_neg hn, if_neg hb, if_neg hc]
  cases he : s.offers.find n.toNat with
  | none =>
    refine hrefused ?_
    rw [State.acceptRefusal, if_neg hn', if_neg (by rw [hdcu]; exact hb), if_neg (by rw [hemu]; exact hc), hoffers, he]
  | some e =>
    have hfound : (s.advanceTo t).toHunt.offers.find n.toNat = some e := by rw [hoffers, he]
    have hrefusal := State.acceptRefusal_of_found hn' (by rw [hdcu]; exact hb) (by rw [hemu]; exact hc) hfound
    simp only [State.toHunt_now, hoffers, hjobs, hmeter] at hrefusal
    have hpasses : (s.advanceTo t).toHunt.acceptRefusal n.toNat = none →
        exec (.accept t n) s = .next (((s.advanceTo t).toHunt.acceptOffer e).respond 0x02 .done []) := fun hp =>
      exec_of_request h (exec_accept t n s) (State.accept_of_passes hp hfound)
    simp only
    split_ifs at hrefusal ⊢ with hstate hstreet hplace hfull hcovert
    · exact hrefused hrefusal
    · exact hrefused hrefusal
    · exact hrefused hrefusal
    · exact hrefused hrefusal
    · rw [hpasses hrefusal, State.acceptOffer_of_covert (by rw [hemu]; exact hcovert), hoffers]
      rfl
    · rw [hpasses hrefusal, State.acceptOffer_of_open (by rw [hemu]; exact hcovert), hoffers, huls, State.placeBid_eq,
        drawValue, nextRng, State.setUls_zone, State.setOffers_zone, hzone, haddress]

end
end

section
/-!
PROOFS. Offers that leave the table, and the jobs of AWARD and ASSIGN (chapters 5 and 6).
-/

namespace Sys2Proof.Machine

/-! ## Leaving the table (R74, R75, R79, R81) -/

section

variable {s : State} {number : Nat} {e : OfferEntry}

/-- A BID that is not the candidate leaves the queue alone, and a choice follows (R37, R41). -/
theorem State.removeBid_of_no_candidate (h : ∀ x ∈ s.uls.queue, x.bidFor number = true → x.mark ≠ .candidate) :
    s.removeBid number =
      if s.uls.queue.any (Entry.bidFor number) then
        (s.setUls { s.uls with queue := s.uls.queue.filter (fun x => !x.bidFor number) }).choose
      else s := by
  have hnone : ¬ s.uls.queue.any (fun e => e.bidFor number && e.isCandidate) = true := by
    simp only [List.any_eq_true, Bool.and_eq_true, not_exists, not_and]
    intro x hx hbid hcand
    exact h x hx hbid (Entry.isCandidate_iff.mp hcand)
  rw [State.removeBid, State.removeEntries, State.dropEntries, if_neg hnone]

@[simp] theorem State.removeBid_offers (s : State) (number : Nat) : (s.removeBid number).offers = s.offers :=
  s.removeEntries_offers _

theorem State.takeWithdraw_of_none (h : s.offers.find number = none) : s.takeWithdraw number = s := by
  rw [State.takeWithdraw, h]

theorem State.takeWithdraw_of_some (h : s.offers.find number = some e) :
    s.takeWithdraw number =
      ((s.removeBid number).setOffers (s.offers.remove number)).offerNotice .withdrawn e none := by
  rw [State.takeWithdraw, h]
  simp only [State.dropOffer, State.removeBid_offers, Offers.find_number h]

theorem State.decline_of_none (hn : number ≠ 0) (h : s.offers.find number = none) :
    s.decline number = s.refuse .state := by
  rw [State.decline, if_neg hn, if_neg (by rw [h]; decide)]

theorem State.decline_of_some (hn : number ≠ 0) (h : s.offers.find number = some e) :
    s.decline number = ((s.removeBid number).setOffers (s.offers.remove number)).doneWith [] := by
  rw [State.decline, if_neg hn, if_pos (by rw [h]; rfl), State.declineOffer, State.removeBid_offers]

theorem State.lapseOffer_eq (h : s.offers.find number = some e) :
    s.lapseOffer e = (s.setOffers (s.offers.remove number)).offerNotice .lapsed e none := by
  rw [State.lapseOffer, State.dropOffer, Offers.find_number h]

theorem State.decisionDeadline_of_some (h : s.offers.find number = some e) :
    s.decisionDeadline number = if e.state = .offered ∧ e.decision ≤ s.now then s.lapseOffer e else s := by
  rw [State.decisionDeadline, h]
  simp only [State.reached_iff]

theorem State.lapseTime_of_some (h : s.offers.find number = some e) :
    s.lapseTime number = if e.state ≠ .offered ∧ e.lapse ≤ s.now then s.lapseOffer e else s := by
  rw [State.lapseTime, h]
  simp only [State.reached_iff]

theorem State.deadlines_of_none (h : s.offers.find number = none) :
    s.decisionDeadline number = s ∧ s.lapseTime number = s := by
  rw [State.decisionDeadline, State.lapseTime, h]
  exact ⟨rfl, rfl⟩

end

/-! ## Placing a job (R94 to R98) -/

section

variable {s : State}

theorem State.promote_of_queued (h : s.jobs.active = none) {k : Job} {rest : List Job} (hq : s.jobs.queued = k :: rest) :
    s.promote = (s.setJobs { active := some k, queued := rest }).jobNotice .promoted k (some true) := by
  rw [State.promote, h, hq]

theorem State.promote_of_active {j : Job} (h : s.jobs.active = some j) : s.promote = s := by
  rw [State.promote, h]

theorem State.promote_of_nil (h : s.jobs.queued = []) : s.promote = s := by
  rw [State.promote, h]
  cases s.jobs.active <;> rfl

theorem State.placeJob_of_held {r : JobRequest} (h : s.jobs.holds r.number = true) :
    s.placeJob r = { state := s, taken := true } := by
  rw [State.placeJob, if_pos h]

theorem State.placeJob_of_active {r : JobRequest} (h : ¬ s.jobs.holds r.number = true)
    (hs : r.kind = .street ∧ s.jobs.active = none ∧ s.meter.mode = .vacant) :
    s.placeJob r = { state := s.joinActive (s.jobRecord r), taken := true } := by
  rw [State.placeJob, if_neg h, if_pos hs]

theorem State.placeJob_of_queued {r : JobRequest} (h : ¬ s.jobs.holds r.number = true)
    (hs : ¬ (r.kind = .street ∧ s.jobs.active = none ∧ s.meter.mode = .vacant))
    (hroom : s.jobs.queued.length < Config.queuedMax) :
    s.placeJob r = { state := s.joinQueued (s.jobRecord r), taken := true } := by
  rw [State.placeJob, if_neg h, if_neg hs, if_pos hroom]

theorem State.placeJob_of_full {r : JobRequest} (h : ¬ s.jobs.holds r.number = true)
    (hs : ¬ (r.kind = .street ∧ s.jobs.active = none ∧ s.meter.mode = .vacant))
    (hfull : ¬ s.jobs.queued.length < Config.queuedMax) :
    s.placeJob r = { state := s, taken := false } := by
  rw [State.placeJob, if_neg h, if_neg hs, if_neg hfull]

/-- The job of a request that joins QUEUED, with its notice. -/
def State.behind (s : State) (j : Job) : State :=
  (s.setJobs { active := s.jobs.active, queued := s.jobs.queued ++ [j] }).jobNotice .placed j (some false)

theorem State.behind_jobs (s : State) (j : Job) :
    (s.behind j).jobs = { active := s.jobs.active, queued := s.jobs.queued ++ [j] } := by
  rw [State.behind, State.jobNotice_jobs, State.setJobs_jobs]

theorem State.behind_meter (s : State) (j : Job) : (s.behind j).meter = s.meter := by
  rw [State.behind, State.jobNotice_meter, State.setJobs_meter]

theorem State.joinQueued_eq (s : State) (j : Job) :
    s.joinQueued j = if s.meter.mode = .vacant then (s.behind j).promote else s.behind j := by
  rw [← State.behind_meter s j]
  rfl

/-- A placement, its refusal with BOOK FULL queued where the book takes no more (R94, R96, R84). -/
def State.placeOrRefuse (s : State) (offer : Nat) (r : JobRequest) : State :=
  if (s.placeJob r).taken then (s.placeJob r).state else (s.placeJob r).state.refuseAward offer r.number .bookFull

theorem State.placeOrRefuse_of_held {offer : Nat} {r : JobRequest} (h : s.jobs.holds r.number = true) :
    s.placeOrRefuse offer r = s := by
  rw [State.placeOrRefuse, State.placeJob_of_held h, if_pos rfl]

theorem State.placeOrRefuse_of_active {offer : Nat} {r : JobRequest} (h : ¬ s.jobs.holds r.number = true)
    (hs : r.kind = .street ∧ s.jobs.active = none ∧ s.meter.mode = .vacant) :
    s.placeOrRefuse offer r = s.joinActive (s.jobRecord r) := by
  rw [State.placeOrRefuse, State.placeJob_of_active h hs, if_pos rfl]

theorem State.placeOrRefuse_of_queued {offer : Nat} {r : JobRequest} (h : ¬ s.jobs.holds r.number = true)
    (hs : ¬ (r.kind = .street ∧ s.jobs.active = none ∧ s.meter.mode = .vacant))
    (hroom : s.jobs.queued.length < Config.queuedMax) :
    s.placeOrRefuse offer r = s.joinQueued (s.jobRecord r) := by
  rw [State.placeOrRefuse, State.placeJob_of_queued h hs hroom, if_pos rfl]

theorem State.placeOrRefuse_of_full {offer : Nat} {r : JobRequest} (h : ¬ s.jobs.holds r.number = true)
    (hs : ¬ (r.kind = .street ∧ s.jobs.active = none ∧ s.meter.mode = .vacant))
    (hfull : ¬ s.jobs.queued.length < Config.queuedMax) :
    s.placeOrRefuse offer r = s.refuseAward offer r.number .bookFull := by
  rw [State.placeOrRefuse, State.placeJob_of_full h hs hfull]
  exact if_neg Bool.false_ne_true

theorem State.takeAssign_eq (a : AssignBody) :
    s.takeAssign a =
      if a.inRange = false ∨ s.jobs.holds a.job = true then s
      else if s.dcu.barred then s.refuseAward 0 a.job .barred
      else if s.emu.overtCall then s.refuseAward 0 a.job .emergency
      else if s.meter.mode = .offShift then s.refuseAward 0 a.job .offShift
      else s.placeOrRefuse 0 a.request := by
  rw [State.takeAssign]
  by_cases hr : a.inRange = false
  · rw [if_pos (by rw [hr]; rfl), if_pos (.inl hr)]
  by_cases hh : s.jobs.holds a.job = true
  · rw [if_neg (by simpa using hr), if_pos hh, if_pos (.inr hh)]
  rw [if_neg (by simpa using hr), if_neg hh, if_neg (not_or.mpr ⟨hr, hh⟩)]
  rfl

theorem State.takeAward_of_none {a : AwardBody} (h : s.offers.find a.offer = none) :
    s.takeAward a =
      if a.inRange = false then s
      else if s.dcu.barred then s.refuseAward a.offer a.job .barred
      else if s.emu.overtCall then s.refuseAward a.offer a.job .emergency
      else s.refuseAward a.offer a.job .lapsed := by
  rw [State.takeAward, h]
  exact if_congr (by simp) rfl rfl

@[simp] theorem State.refuseAward_offers (s : State) (offer job : Nat) (reason : Reason) :
    (s.refuseAward offer job reason).offers = s.offers := by
  rw [State.refuseAward, State.queue, State.join_offers]

theorem State.takeAward_of_some {a : AwardBody} {e : OfferEntry} (h : s.offers.find a.offer = some e) :
    s.takeAward a =
      if a.inRange = false then s
      else if s.dcu.barred then s.refuseAward a.offer a.job .barred
      else if s.emu.overtCall then s.refuseAward a.offer a.job .emergency
      else if e.lapse ≤ s.now then
        ((s.refuseAward a.offer a.job .lapsed).setOffers (s.offers.remove a.offer)).offerNotice .lapsed e none
      else
        (((s.removeBid a.offer).setOffers (s.offers.remove a.offer)).offerNotice .awarded e none).placeOrRefuse
          a.offer (a.request e.zone) := by
  have hlapsed : (s.refuseAward a.offer a.job .lapsed).lapseOffer e =
      ((s.refuseAward a.offer a.job .lapsed).setOffers (s.offers.remove a.offer)).offerNotice .lapsed e none := by
    rw [State.lapseOffer_eq (by rw [State.refuseAward_offers]; exact h), State.refuseAward_offers]
  have hplaced : s.takeAwardFor a e =
      (((s.removeBid a.offer).setOffers (s.offers.remove a.offer)).offerNotice .awarded e none).placeOrRefuse
        a.offer (a.request e.zone) := by
    unfold State.takeAwardFor State.dropOffer
    rw [State.removeBid_offers, Offers.find_number h]
    rfl
  rw [State.takeAward, h, ← hlapsed, ← hplaced]
  simp only [State.reached_iff]
  exact if_congr (by simp) rfl rfl

end

end Sys2Proof.Machine

section
open Sys2Proof Sys2Proof.Machine

/-- Settles O23: by the entry that the number names, and by the deadlines. -/
theorem offerLeavesTable : Obligations.OfferLeavesTable := by
  intro s t n
  have hoffers : (s.advanceTo t).offers = s.offers := s.advanceTo_offers t
  have hne : n ≠ 0 → n.toNat ≠ 0 := fun h => by rwa [ne_eq, Half.toNat_eq_zero_iff]
  refine ⟨fun q k h => State.removeBid_of_no_candidate h, fun h => ⟨fun hn => ?_, fun hn hf => ?_, fun e hn hf => ?_⟩,
    fun rx g hv hg hk hb => ?_, fun e hv hf => ?_, fun hv hf => ?_⟩
  · exact exec_of_refused h rfl (by rw [State.decline, if_pos (Half.toNat_eq_zero_iff.mpr hn)])
  · exact exec_of_refused h rfl (State.decline_of_none (hne hn) (by rw [State.toHunt_offers, hoffers, hf]))
  · have hfound : (s.advanceTo t).toHunt.offers.find n.toNat = some e := by rw [State.toHunt_offers, hoffers, hf]
    refine (exec_of_request (act := fun s => s.decline n.toNat) h rfl
      (State.decline_of_some (hne hn) hfound)).trans ?_
    rw [State.toHunt_offers, hoffers]
    rfl
  · have hexec := exec_of_hears (i := .withdraw t rx) hv hg rfl hk
    rw [State.handOver, hk] at hexec
    simp only [hb] at hexec
    refine ⟨fun hf => ?_, fun e hf => ?_⟩
    · rw [hexec, State.takeWithdraw_of_none hf]
    · rw [hexec, State.takeWithdraw_of_some hf]
      rfl
  · have hfound : (s.advanceTo t).offers.find n.toNat = some e := by rw [hoffers, hf]
    have hd : exec (.decisionDeadline t n) s = .next ((s.advanceTo t).decisionDeadline n.toNat) :=
      exec_of_event (f := fun s => s.decisionDeadline n.toNat) hv rfl
    have hl : exec (.lapseTime t n) s = .next ((s.advanceTo t).lapseTime n.toNat) :=
      exec_of_event (f := fun s => s.lapseTime n.toNat) hv rfl
    rw [State.decisionDeadline_of_some hfound, State.lapseOffer_eq hfound, hoffers] at hd
    rw [State.lapseTime_of_some hfound, State.lapseOffer_eq hfound, hoffers] at hl
    refine ⟨fun h h' => ?_, fun h => ?_, fun h h' => ?_, fun h => ?_⟩
    · rw [hd, if_pos ⟨h, h'⟩]
      rfl
    · rw [hd, if_neg fun hc => h.elim (fun h => h hc.1) (Nat.not_lt_of_le hc.2)]
    · rw [hl, if_pos ⟨h, h'⟩]
      rfl
    · rw [hl, if_neg fun hc => h.elim hc.1 (Nat.not_lt_of_le hc.2)]
  · have hnone := State.deadlines_of_none (s := s.advanceTo t) (number := n.toNat) (by rw [hoffers, hf])
    exact ⟨(exec_of_event (f := fun s => s.decisionDeadline n.toNat) hv rfl).trans (congrArg _ hnone.1),
      (exec_of_event (f := fun s => s.lapseTime n.toNat) hv rfl).trans (congrArg _ hnone.2)⟩

/-- Settles O24: by the tests in their order, and by the place that the book has for the job. -/
theorem awardAndAssignPlaceJobs : Obligations.AwardAndAssignPlaceJobs := by
  intro s t rx g hv hg s1 ended refuse place
  have hplace : ∀ (q : State) (offer : Nat) (r : JobRequest),
      q.placeOrRefuse offer r = place q offer (q.jobRecord r) := by
    intro q offer r
    simp only [place]
    by_cases hheld : q.jobs.holds r.number = true
    · rw [State.placeOrRefuse_of_held hheld]
      exact (if_pos hheld).symm
    by_cases hs : r.kind = .street ∧ q.jobs.active = none ∧ q.meter.mode = .vacant
    · rw [State.placeOrRefuse_of_active hheld hs]
      exact ((if_neg hheld).trans (if_pos hs)).symm
    by_cases hroom : q.jobs.queued.length < 2
    · rw [State.placeOrRefuse_of_queued hheld hs hroom, State.joinQueued_eq]
      refine Eq.trans ?_ ((if_neg hheld).trans ((if_neg hs).trans (if_pos hroom))).symm
      have hjobs := q.behind_jobs (q.jobRecord r)
      cases hactive : q.jobs.active with
      | some j =>
        rw [State.promote_of_active (j := j) (by rw [hjobs]; exact hactive), ite_self, State.behind, hactive]
      | none =>
        cases hq : q.jobs.queued ++ [q.jobRecord r] with
        | nil => exact absurd hq (by simp)
        | cons k rest =>
          rw [State.promote_of_queued (k := k) (rest := rest) (by rw [hjobs]; exact hactive) (by rw [hjobs]; exact hq),
            State.behind, hactive, hq]
    · rw [State.placeOrRefuse_of_full hheld hs hroom]
      exact ((if_neg hheld).trans ((if_neg hs).trans (if_neg hroom))).symm
  refine ⟨fun hk => ?_, fun hk => ?_⟩
  · have hexec := exec_of_hears (i := .award t rx) hv hg rfl hk
    rw [State.handOver, hk] at hexec
    refine hexec.trans (congrArg (fun q => Host.Outcome.next (ended q)) ?_)
    simp only
    cases hf : s1.offers.find (AwardBody.read g.body).offer with
    | none => exact State.takeAward_of_none hf
    | some e =>
      refine (State.takeAward_of_some hf).trans ?_
      rw [hplace]
      rfl
  · have hexec := exec_of_hears (i := .assign t rx) hv hg rfl hk
    rw [State.handOver, hk] at hexec
    refine hexec.trans (congrArg (fun q => Host.Outcome.next (ended q)) ?_)
    refine State.takeAssign_eq (s := s1) _ |>.trans ?_
    rw [hplace]
    rfl

end
end

section
/-!
PROOFS. Jobs that arrive and leave (chapter 6), with the messages linked to them (chapter 9).
-/

namespace Sys2Proof.Machine

/-! ## Removing a message (R160) -/

theorem Message.linkedTo_iff {x : Message} {number : Nat} :
    x.linkedTo number = true ↔ x.cls = .jobnote ∧ x.job = some number := by
  rw [Message.linkedTo, Bool.and_eq_true, beq_iff_eq, beq_iff_eq]

/-- With distinct numbers no other message of the store has the number of this one. -/
theorem Message.number_ne_of_nodup {front back : List Message} {x : Message}
    (hd : ((front ++ x :: back).map (fun x => x.number)).Nodup) : ∀ y ∈ front ++ back, y.number ≠ x.number := by
  rw [List.map_append, List.map_cons, List.nodup_middle, List.nodup_cons, ← List.map_append] at hd
  exact fun y hy heq => hd.1 (heq ▸ List.mem_map_of_mem (f := fun x : Message => x.number) hy)

theorem Messages.remove_of_split {m : Messages} {front back : List Message} {x : Message}
    (hs : m.store = front ++ x :: back) (hother : ∀ y ∈ front ++ back, y.number ≠ x.number) :
    m.remove x.number = { m with store := front ++ back } := by
  have hkeep : ∀ l : List Message, (∀ y ∈ l, y ∈ front ++ back) → l.filter (fun y => y.number != x.number) = l :=
    fun l hl => List.filter_eq_self.mpr fun y hy => by simpa using hother y (hl y hy)
  rw [Messages.remove, hs, List.filter_append, List.filter_cons_of_neg (by simp),
    hkeep front fun y hy => List.mem_append_left _ hy, hkeep back fun y hy => List.mem_append_right _ hy]

theorem State.dropMessage_of_split {s : State} {front back : List Message} {x : Message}
    (hd : (s.msgs.store.map (fun x => x.number)).Nodup) (hs : s.msgs.store = front ++ x :: back) (cause : MsgCause) :
    s.dropMessage cause x = (s.setMsgs { s.msgs with store := front ++ back }).messageNotice cause x := by
  rw [hs] at hd
  rw [State.dropMessage, Messages.remove_of_split hs (Message.number_ne_of_nodup hd)]

/-! ## The messages of a job that left (R163) -/

section

variable {s : State} {number : Nat}

theorem State.jobGone_of_none (h : ∀ x ∈ s.msgs.store, ¬ (x.cls = .jobnote ∧ x.job = some number)) :
    s.jobGone number = s := by
  have hnil : s.msgs.store.filter (Message.linkedTo number) = [] :=
    List.filter_eq_nil_iff.mpr fun x hx hl => h x hx (Message.linkedTo_iff.mp hl)
  rw [State.jobGone, hnil, List.foldl_nil]

theorem State.jobGone_of_split {front back : List Message} {x : Message}
    (hd : (s.msgs.store.map (fun x => x.number)).Nodup) (hs : s.msgs.store = front ++ x :: back)
    (hx : x.cls = .jobnote ∧ x.job = some number) (hf : ∀ y ∈ front, ¬ (y.cls = .jobnote ∧ y.job = some number)) :
    s.jobGone number =
      ((s.setMsgs { s.msgs with store := front ++ back }).messageNotice .jobGone x).jobGone number := by
  have hnil : front.filter (Message.linkedTo number) = [] :=
    List.filter_eq_nil_iff.mpr fun y hy hl => hf y hy (Message.linkedTo_iff.mp hl)
  rw [State.jobGone, hs, List.filter_append, hnil, List.nil_append,
    List.filter_cons_of_pos (Message.linkedTo_iff.mpr hx), List.foldl_cons, State.dropMessage_of_split hd hs,
    State.jobGone, State.messageNotice_msgs, State.setMsgs_msgs, List.filter_append, hnil, List.nil_append]

theorem State.jobGone_jobs (s : State) (number : Nat) : (s.jobGone number).jobs = s.jobs := by
  obtain ⟨m, c, -, -, -, h⟩ := s.jobGone_eq number
  rw [h, State.setCab_jobs, State.setMsgs_jobs]

theorem State.leaveActive_of_nil (j : Job) (h : s.jobs.queued = []) :
    s.leaveActive j = (s.setJobs { active := none, queued := s.jobs.queued }).jobGone j.number := by
  rw [State.leaveActive, State.promote_of_nil (by rw [State.jobGone_jobs, State.setJobs_jobs]; exact h)]

theorem State.leaveActive_of_cons (j : Job) {k : Job} {rest : List Job} (h : s.jobs.queued = k :: rest) :
    s.leaveActive j =
      (((s.setJobs { active := none, queued := s.jobs.queued }).jobGone j.number).setJobs
        { active := some k, queued := rest }).jobNotice .promoted k (some true) := by
  rw [State.leaveActive, State.promote_of_queued (k := k) (rest := rest)
    (by rw [State.jobGone_jobs, State.setJobs_jobs]) (by rw [State.jobGone_jobs, State.setJobs_jobs]; exact h)]

/-! ## The driver's requests and JOB CANCEL (R100, R101, R104) -/

theorem JobBook.activeIn_of_other {b : JobBook} (h : ∀ j, b.active = some j → j.number ≠ number) (state : JobState) :
    b.activeIn number state = none := by
  rw [JobBook.activeIn, Option.filter_eq_none_iff]
  intro j hj
  simp [h j hj]

theorem JobBook.activeIn_of_state {b : JobBook} {j : Job} (h : b.active = some j) (hn : j.number = number)
    (state : JobState) : b.activeIn number state = if j.state = state then some j else none := by
  rw [JobBook.activeIn, h, Option.filter_some, hn]
  simp

theorem State.arrived_of_none (hn : number ≠ 0) (h : s.jobs.activeIn number .assigned = none) :
    s.arrived number = s.refuse .state := by
  rw [State.arrived, if_neg hn, h]

theorem State.arrived_of_some (hn : number ≠ 0) {j : Job} (h : s.jobs.activeIn number .assigned = some j) :
    s.arrived number =
      ((s.setJobs { s.jobs with active := some { j with state := .arrived, arrived := some s.now } }).jobStatus
        { j with state := .arrived, arrived := some s.now } .arrived).doneWith [] := by
  rw [State.arrived, if_neg hn, h]

theorem State.noShow_of_none (hn : number ≠ 0) (h : s.jobs.activeIn number .arrived = none) :
    s.noShow number = s.refuse .state := by
  rw [State.noShow, if_neg hn, h]

theorem State.noShow_of_some (hn : number ≠ 0) {j : Job} (h : s.jobs.activeIn number .arrived = some j) :
    s.noShow number =
      if j.arrived.getD 0 + 1000 * s.op.noShowWait ≤ s.now then ((s.leaveActive j).jobStatus j .noShow).doneWith []
      else s.refuse .state := by
  rw [State.noShow, if_neg hn, h]
  exact if_congr State.reached_iff rfl rfl

theorem State.takeJobCancel_of_active {j : Job} (h : s.jobs.active = some j) (hn : j.number = number) :
    s.takeJobCancel number =
      if j.state = .onBoard then s.jobStatus j .onBoard else (s.leaveActive j).jobNotice .cancelled j none := by
  rw [State.takeJobCancel, h, Option.filter_some, if_pos (by rw [hn, beq_self_eq_true])]

theorem State.takeJobCancel_of_queued (h : ∀ k, s.jobs.active = some k → k.number ≠ number) {j : Job}
    (hq : s.jobs.queued.find? (fun k => k.number == number) = some j) :
    s.takeJobCancel number = (s.leaveQueued j).jobNotice .cancelled j none := by
  have hnone : s.jobs.active.filter (fun j => j.number == number) = none :=
    Option.filter_eq_none_iff.mpr fun k hk => by simp [h k hk]
  rw [State.takeJobCancel, hnone, hq]

theorem State.takeJobCancel_of_not_held (h : s.jobs.holds number = false) : s.takeJobCancel number = s := by
  have hall : ∀ j ∈ s.jobs.active.toList ++ s.jobs.queued, ¬ (j.number == number) = true := by
    simpa only [JobBook.holds, JobBook.jobs, List.any_eq_false] using h
  have hnone : s.jobs.active.filter (fun j => j.number == number) = none :=
    Option.filter_eq_none_iff.mpr fun k hk => hall k (List.mem_append_left _ (by simp [hk]))
  have hqueued : s.jobs.queued.find? (fun j => j.number == number) = none :=
    List.find?_eq_none.mpr fun k hk => hall k (List.mem_append_right _ hk)
  rw [State.takeJobCancel, hnone, hqueued]

end

end Sys2Proof.Machine

section
open Sys2Proof Sys2Proof.Machine

/-- Settles O25: by the place of the job that the number names. -/
theorem jobsArriveAndLeave : Obligations.JobsArriveAndLeave := by
  intro s t n s0 status gone note
  have hgone : ∀ (q : State) (j : Job), j.number = n.toNat → q.leaveActive j = gone q := by
    intro q j hj
    simp only [gone]
    cases hq : q.jobs.queued with
    | nil => rw [State.leaveActive_of_nil j hq, hj, hq]
    | cons k rest => rw [State.leaveActive_of_cons j hq, hj, hq]
  have hjobs : s0.toHunt.jobs = s.jobs := s.advanceTo_jobs t
  have hop : s0.toHunt.op = s.op := s.op_advanceTo t
  have hne : n ≠ 0 → n.toNat ≠ 0 := fun h => by rwa [ne_eq, Half.toNat_eq_zero_iff]
  refine ⟨⟨fun h => State.jobGone_of_none h, fun front x back hd hs hx hf => State.jobGone_of_split hd hs hx hf⟩,
    fun h hn => ⟨?_, ?_⟩, fun h hn hj => ⟨?_, ?_⟩, fun j h hn ha hj => ?_, fun rx g hv hg hk hb => ?_⟩
  · exact exec_of_refused h rfl (by rw [State.arrived, if_pos (Half.toNat_eq_zero_iff.mpr hn)])
  · exact exec_of_refused h rfl (by rw [State.noShow, if_pos (Half.toNat_eq_zero_iff.mpr hn)])
  · exact exec_of_refused h rfl
      (State.arrived_of_none (hne hn) (by rw [hjobs]; exact JobBook.activeIn_of_other hj _))
  · exact exec_of_refused h rfl
      (State.noShow_of_none (hne hn) (by rw [hjobs]; exact JobBook.activeIn_of_other hj _))
  · have hin : ∀ state, s0.toHunt.jobs.activeIn n.toNat state = if j.state = state then some j else none := fun state => by
      rw [hjobs]
      exact JobBook.activeIn_of_state ha hj state
    refine ⟨fun hs => ?_, fun hs => ?_, fun hs hw => ?_, fun hs => ?_⟩
    · refine (exec_of_request (act := fun s => s.arrived n.toNat) h rfl
        (State.arrived_of_some (hne hn) ((hin _).trans (if_pos hs)))).trans ?_
      rw [hjobs]
      rfl
    · exact exec_of_refused h rfl (State.arrived_of_none (hne hn) ((hin _).trans (if_neg hs)))
    · refine (exec_of_request (act := fun s => s.noShow n.toNat) h rfl
        ((State.noShow_of_some (hne hn) ((hin _).trans (if_pos hs))).trans
          (if_pos (by rw [hop]; exact hw)))).trans ?_
      rw [hgone _ j hj]
      rfl
    · by_cases ha' : j.state = .arrived
      · refine exec_of_refused h rfl ((State.noShow_of_some (hne hn) ((hin _).trans (if_pos ha'))).trans (if_neg ?_))
        rw [hop]
        exact Nat.not_le_of_lt (hs.resolve_left (not_not.mpr ha'))
      · exact exec_of_refused h rfl (State.noShow_of_none (hne hn) ((hin _).trans (if_neg ha')))
  · have hexec := exec_of_hears (i := .jobCancel t rx) hv hg rfl hk
    rw [State.handOver, hk] at hexec
    simp only [hb] at hexec
    intro s1 ended
    have hcancel : ∀ {q}, s1.takeJobCancel n.toNat = q → exec (.jobCancel t rx) s = .next (ended q) := fun h =>
      hexec.trans (congrArg (fun q => Host.Outcome.next (ended q)) h)
    refine ⟨fun j ha hj => ⟨fun hs => ?_, fun hs => ?_⟩, fun j ha hq => ?_, fun hh => ?_⟩
    · exact hcancel ((State.takeJobCancel_of_active ha hj).trans (if_pos hs))
    · rw [← hgone s1 j hj]
      exact hcancel ((State.takeJobCancel_of_active ha hj).trans (if_neg hs))
    · have hj : j.number = n.toNat := by simpa using List.find?_some hq
      rw [← hj]
      rw [← hj] at hcancel ha hq
      exact hcancel (State.takeJobCancel_of_queued ha hq)
    · exact hcancel (State.takeJobCancel_of_not_held hh)

end
end

section
/-!
PROOFS. The drops that progress gives (section 7.6).
-/

namespace Sys2Proof.Machine

section

variable {s : State} {p : Trip} {t : Tariff}

/-- The thresholds of a tariff that has any: a regular one is above 0 and the least (R117). -/
theorem Tariff.regular_le_threshold (hd : 0 < t.distance * t.time) (hf : 1 ≤ t.firstStep) (kind : ThresholdKind) :
    0 < t.threshold .regular ∧ t.threshold .regular ≤ t.threshold kind := by
  refine ⟨hd, ?_⟩
  cases kind
  · exact Nat.le_mul_of_pos_left _ hf
  · exact Nat.le_refl _

theorem Tariff.threshold_eq (t : Tariff) (kind : ThresholdKind) :
    t.threshold kind = if kind = .first then t.firstStep * (t.distance * t.time) else t.distance * t.time := by
  cases kind <;> rfl

theorem State.takeDrop_eq (s : State) (p : Trip) (t : Tariff) :
    ∃ c, s.takeDrop p t = (s.setMeter { s.meter with trip := some (p.drop t) }).setCab c := by
  obtain ⟨c, -, h⟩ := (s.setMeter { s.meter with trip := some (p.drop t) }).raise_eq .meter MeterCause.drop.code
    (be 1 s.meter.mode.code ++ be 1 p.tariff ++ be 4 (p.drop t).drops ++ be 3 (p.drop t).charged)
  exact ⟨c, h⟩

theorem State.takeDrop_trip (s : State) (p : Trip) (t : Tariff) : (s.takeDrop p t).meter.trip = some (p.drop t) := by
  obtain ⟨c, h⟩ := s.takeDrop_eq p t
  rw [h]
  rfl

theorem State.takeDrop_tariff (s : State) (p : Trip) (t : Tariff) (number : Nat) :
    (s.takeDrop p t).tariff number = s.tariff number := by
  obtain ⟨c, h⟩ := s.takeDrop_eq p t
  rw [h]
  rfl

theorem State.dropLoop_succ (hp : s.meter.trip = some p) (ht : s.tariff p.tariff = some t) (fuel : Nat) :
    s.dropLoop (fuel + 1) = if t.threshold p.threshold ≤ p.progress then (s.takeDrop p t).dropLoop fuel else s := by
  rw [State.dropLoop, hp]
  simp only [ht]

/-- More drops allowed than the progress can give change nothing. -/
theorem State.dropLoop_of_enough (hd : 0 < t.distance * t.time) (hf : 1 ≤ t.firstStep) {fuel : Nat}
    (hp : s.meter.trip = some p) (ht : s.tariff p.tariff = some t) (he : p.progress / t.threshold .regular < fuel) :
    s.dropLoop (fuel + 1) = s.dropLoop fuel := by
  induction fuel generalizing s p with
  | zero => exact absurd he (Nat.not_lt_zero _)
  | succ n ih =>
    rw [State.dropLoop_succ hp ht, State.dropLoop_succ hp ht n]
    by_cases hle : t.threshold p.threshold ≤ p.progress
    · obtain ⟨hpos, hth⟩ := Tariff.regular_le_threshold hd hf p.threshold
      have hless : (p.drop t).progress / t.threshold .regular < n := by
        have hone := Nat.div_eq_sub_div hpos (hth.trans hle)
        have hmono : (p.progress - t.threshold p.threshold) / t.threshold .regular
            ≤ (p.progress - t.threshold .regular) / t.threshold .regular := Nat.div_le_div_right (by omega)
        show (p.progress - t.threshold p.threshold) / t.threshold .regular < n
        omega
      rw [if_pos hle, if_pos hle, ih (s.takeDrop_trip p t) ((s.takeDrop_tariff p t _).trans ht) hless]
    · rw [if_neg hle, if_neg hle]

theorem State.dropLoop_eq_dropTest (hd : 0 < t.distance * t.time) (hf : 1 ≤ t.firstStep) {fuel : Nat}
    (hp : s.meter.trip = some p) (ht : s.tariff p.tariff = some t) (he : p.progress / t.threshold .regular < fuel) :
    s.dropLoop fuel = s.dropTest := by
  have hbound : s.dropBound = p.progress / t.threshold .regular + 1 := by
    rw [State.dropBound, hp]
    simp only [ht]
  rw [State.dropTest, hbound]
  induction fuel, he using Nat.le_induction with
  | base => rfl
  | succ n hn ih => rw [State.dropLoop_of_enough hd hf hp ht hn, ih]

theorem State.dropTest_of_below (hp : s.meter.trip = some p) (ht : s.tariff p.tariff = some t)
    (hb : p.progress < t.threshold p.threshold) : s.dropTest = s := by
  have hbound : s.dropBound = p.progress / t.threshold .regular + 1 := by
    rw [State.dropBound, hp]
    simp only [ht]
  rw [State.dropTest, hbound, State.dropLoop_succ hp ht, if_neg (Nat.not_le_of_lt hb)]

/-- A threshold reached is one drop, and the test goes on with what is left (R119). -/
theorem State.dropTest_of_reached (hd : 0 < t.distance * t.time) (hf : 1 ≤ t.firstStep)
    (hp : s.meter.trip = some p) (ht : s.tariff p.tariff = some t) (hr : t.threshold p.threshold ≤ p.progress) :
    s.dropTest = (s.takeDrop p t).dropTest := by
  obtain ⟨hpos, hth⟩ := Tariff.regular_le_threshold hd hf p.threshold
  have hless : (p.drop t).progress / t.threshold .regular < p.progress / t.threshold .regular + 1 :=
    Nat.lt_succ_of_le (Nat.div_le_div_right (Nat.sub_le _ _))
  rw [← State.dropLoop_eq_dropTest hd hf hp ht (fuel := p.progress / t.threshold .regular + 1 + 1) (by omega),
    State.dropLoop_succ hp ht, if_pos hr,
    State.dropLoop_eq_dropTest hd hf (s.takeDrop_trip p t) ((s.takeDrop_tariff p t _).trans ht) hless]

/-! ## All the drops at once -/

/-- What `n` drops of an amount make of a trip, but for its progress and its threshold. -/
structure Trip.Dropped (amount n : Nat) (p p' : Trip) : Prop where
  drops : p'.drops = p.drops + n
  fare : p'.fare = min 999999 (p.fare + n * amount)
  seconds : p'.seconds = p.seconds
  metres : p'.metres = p.metres
  extras : p'.extras = p.extras
  part : p'.part = p.part

theorem Trip.Dropped.none {amount : Nat} (h : p.fare ≤ 999999) : p.Dropped amount 0 p :=
  ⟨rfl, by rw [Nat.zero_mul, Nat.add_zero, Nat.min_eq_right h], rfl, rfl, rfl, rfl⟩

theorem Trip.drop_dropped (h : p.drops < 4294967295) : p.Dropped t.drop 1 (p.drop t) :=
  ⟨Nat.min_eq_right h, by rw [Nat.one_mul]; rfl, rfl, rfl, rfl, rfl⟩

theorem Trip.Dropped.trans {amount m n : Nat} {p' p'' : Trip} (h : p.Dropped amount m p') (h' : p'.Dropped amount n p'') :
    p.Dropped amount (m + n) p'' := by
  refine ⟨by rw [h'.drops, h.drops, Nat.add_assoc], ?_, h'.seconds.trans h.seconds, h'.metres.trans h.metres,
    h'.extras.trans h.extras, h'.part.trans h.part⟩
  rw [h'.fare, h.fare, Nat.add_mul]
  omega

/-- The drops under regular thresholds: as often as the threshold goes into the progress. -/
theorem State.dropTest_of_regular (hd : 0 < t.distance * t.time) (hf : 1 ≤ t.firstStep) {n : Nat}
    (hp : s.meter.trip = some p) (ht : s.tariff p.tariff = some t) (hreg : p.threshold = .regular)
    (hfare : p.fare ≤ 999999) (hn : p.progress / (t.distance * t.time) = n) (hdrops : p.drops + n ≤ 4294967295) :
    ∃ p' c, s.dropTest = (s.setMeter { s.meter with trip := some p' }).setCab c
      ∧ p'.progress = p.progress % (t.distance * t.time) ∧ p'.threshold = .regular ∧ p.Dropped t.drop n p' := by
  have hth : t.threshold p.threshold = t.distance * t.time := by rw [hreg]; rfl
  induction n generalizing s p with
  | zero =>
    have hb : p.progress < t.distance * t.time := (Nat.div_eq_zero_iff_lt hd).mp hn
    refine ⟨p, s.cab, ?_, (Nat.mod_eq_of_lt hb).symm, hreg, .none hfare⟩
    rw [State.dropTest_of_below hp ht (hth ▸ hb), ← hp]
    rfl
  | succ n ih =>
    have hr : t.distance * t.time ≤ p.progress := Nat.le_of_not_lt fun h => by
      rw [Nat.div_eq_of_lt h] at hn
      omega
    have hprogress : (p.drop t).progress = p.progress - t.distance * t.time := congrArg (p.progress - ·) hth
    have hless : (p.drop t).progress / (t.distance * t.time) = n := by
      rw [hprogress]
      have := Nat.div_eq_sub_div hd hr
      omega
    have hone : p.Dropped t.drop 1 (p.drop t) := Trip.drop_dropped (by omega)
    obtain ⟨p', c', h, hpr, hthr, hdropped⟩ := ih (s.takeDrop_trip p t) ((s.takeDrop_tariff p t _).trans ht) rfl
      (Nat.min_le_left _ _) hless (by rw [hone.drops]; omega) rfl
    obtain ⟨c, hdrop⟩ := s.takeDrop_eq p t
    refine ⟨p', c', ?_, ?_, hthr, Nat.add_comm 1 n ▸ hone.trans hdropped⟩
    · rw [State.dropTest_of_reached hd hf hp ht (hth ▸ hr), h, hdrop]
      rfl
    · rw [hpr, hprogress, ← Nat.mod_eq_sub_mod hr]

end

end Sys2Proof.Machine

section
open Sys2Proof Sys2Proof.Machine

/-- Settles O29: the first drop takes the threshold in force, and those after it regular ones. -/
theorem dropsTakenFromProgress : Obligations.DropsTakenFromProgress := by
  intro s p T hp ht hd hf
  have hth := T.threshold_eq p.threshold
  simp only
  rw [← hth]
  refine ⟨State.dropTest_of_below hp ht, fun h => ?_, fun hfare hdrops => ?_⟩
  · rw [State.dropTest_of_reached hd hf hp ht h]
    rfl
  by_cases hb : p.progress < T.threshold p.threshold
  · refine ⟨p, s.cab, ?_, ?_⟩
    · rw [State.dropTest_of_below hp ht hb, ← hp]
      rfl
    · rw [if_pos hb, if_pos hb, if_pos rfl, Nat.zero_mul, Nat.add_zero, Nat.add_zero, Nat.min_eq_right hfare]
      exact ⟨rfl, rfl, rfl, rfl, rfl, rfl, rfl, rfl⟩
  · rw [if_neg hb] at hdrops
    simp only [if_neg hb]
    have hlt : p.drops < 4294967295 :=
      Nat.le_trans (Nat.add_le_add_left (Nat.le_add_right 1 _) p.drops) hdrops
    have hone : p.Dropped T.drop 1 (p.drop T) := Trip.drop_dropped hlt
    obtain ⟨p', c', h, hpr, hthr, hdropped⟩ := State.dropTest_of_regular hd hf (s.takeDrop_trip p T)
      ((s.takeDrop_tariff p T _).trans ht) rfl (Nat.min_le_left _ _) rfl (by rw [hone.drops, Nat.add_assoc]; exact hdrops)
    obtain ⟨c, hdrop⟩ := s.takeDrop_eq p T
    obtain ⟨h1, h2, h3, h4, h5, h6⟩ := hone.trans hdropped
    refine ⟨p', c', ?_, hpr, h1, h2, ?_, h3, h4, h5, h6⟩
    · rw [State.dropTest_of_reached hd hf hp ht (Nat.le_of_not_lt hb), h, hdrop]
      rfl
    · rw [hthr, Nat.one_add]
      exact (if_neg (Nat.succ_ne_zero _)).symm

end
end

section
/-!
PROOFS. Settlement, STOP, RESUME and the seconds tick (chapter 7).
-/

namespace Sys2Proof.Machine

/-! ## Clamp and settlement (R115, R116) -/

/-- The trip gets the CLAMP flag when m exceeds vmax. -/
def Trip.clampIf (exceeds : Bool) (p : Trip) : Trip := { p with clamp := p.clamp || exceeds }

/-- The clamped metres of a shift receive what m exceeds vmax by. -/
def ShiftRecord.clamp (vmax m : Nat) (r : ShiftRecord) : ShiftRecord :=
  { r with clampedMetres := if vmax < m then sumUp r.clampedMetres (m - vmax) else r.clampedMetres }

theorem ShiftRecord.clamp_of_le {vmax m : Nat} (h : ¬ vmax < m) (r : ShiftRecord) : r.clamp vmax m = r := by
  rw [ShiftRecord.clamp, if_neg h]

theorem ShiftRecord.clamp_of_lt {vmax m : Nat} (h : vmax < m) (r : ShiftRecord) :
    r.clamp vmax m = { r with clampedMetres := sumUp r.clampedMetres (m - vmax) } := by
  rw [ShiftRecord.clamp, if_pos h]

theorem Trip.clampIf_false (p : Trip) : p.clampIf false = p := by
  rw [Trip.clampIf, Bool.or_false]

theorem Trip.clampIf_true (p : Trip) : p.clampIf true = { p with clamp := true } := by
  rw [Trip.clampIf, Bool.or_true]

section

variable {s : State} {c : Calibration}

theorem State.clampMetres_of_le (hc : s.meter.calibration = some c) (h : ¬ c.vmax < s.meter.m) :
    s.clampMetres = s := by
  rw [State.clampMetres, hc]
  exact if_neg h

/-- The clamp of an open shift (R115, R116). -/
theorem State.clampMetres_of_inShift (hc : s.meter.calibration = some c) (hm : s.meter.mode ≠ .offShift) :
    s.clampMetres =
      (s.setMeter
        { s.meter with
          m := min s.meter.m c.vmax
          trip := s.meter.trip.map (Trip.clampIf (decide (c.vmax < s.meter.m))) }).setTrips
        { s.trips with current := s.trips.current.map (ShiftRecord.clamp c.vmax s.meter.m) } := by
  by_cases h : c.vmax < s.meter.m
  · have htrip : Trip.clampIf true = fun p => { p with clamp := true } := funext Trip.clampIf_true
    have hshift : ShiftRecord.clamp c.vmax s.meter.m =
        fun r => { r with clampedMetres := sumUp r.clampedMetres (s.meter.m - c.vmax) } :=
      funext (ShiftRecord.clamp_of_lt h)
    rw [State.clampMetres, hc, decide_eq_true h, htrip, hshift, Nat.min_eq_right (Nat.le_of_lt h)]
    exact (if_pos h).trans (if_neg hm)
  · have htrip : Trip.clampIf false = id := funext Trip.clampIf_false
    have hshift : ShiftRecord.clamp c.vmax s.meter.m = id := funext (ShiftRecord.clamp_of_le h)
    rw [State.clampMetres_of_le hc h, decide_eq_false h, htrip, hshift, Option.map_id_fun, Option.map_id_fun,
      Nat.min_eq_left (Nat.le_of_not_lt h)]
    rfl

/-- The clamp while OFF-SHIFT, where no trip is in progress. -/
theorem State.clampMetres_of_offShift (hc : s.meter.calibration = some c) (hm : s.meter.mode = .offShift)
    (hp : s.meter.trip = none) : s.clampMetres = s.setMeter { s.meter with m := min s.meter.m c.vmax } := by
  by_cases h : c.vmax < s.meter.m
  · rw [State.clampMetres, hc, hp, Nat.min_eq_right (Nat.le_of_lt h)]
    refine ((if_pos h).trans (if_pos hm)).trans ?_
    rw [Option.map_none, ← hp]
  · rw [State.clampMetres_of_le hc h, Nat.min_eq_left (Nat.le_of_not_lt h)]
    rfl

/-- The vacant metres of a shift receive the metres settled, and its clamped metres the excess. -/
def ShiftRecord.settle (vmax m : Nat) (r : ShiftRecord) : ShiftRecord :=
  { r.clamp vmax m with vacantMetres := sumUp r.vacantMetres (min m vmax) }

theorem State.settleVacant_eq (hc : s.meter.calibration = some c) (hm : s.meter.mode ≠ .offShift) :
    s.settleVacant =
      (s.setMeter
        { s.meter with m := 0, trip := s.meter.trip.map (Trip.clampIf (decide (c.vmax < s.meter.m))) }).setTrips
        { s.trips with
          odometer := sumUp s.trips.odometer (min s.meter.m c.vmax)
          current := s.trips.current.map (ShiftRecord.settle c.vmax s.meter.m) } := by
  rw [State.settleVacant, State.clampMetres_of_inShift hc hm]
  simp only [State.addOdometer, State.addVacant, State.updateShift, State.clearMetres, State.setTrips_trips,
    State.setTrips_meter, State.setMeter_meter, Option.map_map]
  rfl

theorem State.settleHired_eq (hc : s.meter.calibration = some c) (hm : s.meter.mode ≠ .offShift) :
    s.settleHired =
      (s.setMeter
        { s.meter with
          m := 0
          trip := s.meter.trip.map
            (Trip.addMetres (min s.meter.m c.vmax) ∘ Trip.clampIf (decide (c.vmax < s.meter.m))) }).setTrips
        { s.trips with
          odometer := sumUp s.trips.odometer (min s.meter.m c.vmax)
          current := s.trips.current.map (ShiftRecord.clamp c.vmax s.meter.m) } := by
  rw [State.settleHired, State.clampMetres_of_inShift hc hm]
  simp only [State.addOdometer, State.updateTrip, State.clearMetres, State.setTrips_trips,
    State.setTrips_meter, State.setMeter_meter, Option.map_map]
  rfl

/-! ## Requests refused with STATE (R111) -/

/-- The sequence faults of the open shift rise by one. -/
def Trips.faulted (x : Trips) : Trips :=
  { x with current := x.current.map (fun r => { r with faults := min 65535 (r.faults + 1) }) }

theorem exec_of_refuseState {i : Instr} {s : State} {t : Stamp} (h : s.takes) {kind : Byte} {act : State → Answer}
    (he : exec i s = .next (s.request t kind act)) (hm : s.meter.mode ≠ .offShift)
    (ha : act (s.advanceTo t).toHunt = (s.advanceTo t).toHunt.refuseState) :
    exec i s = .next (((s.advanceTo t).setTrips s.trips.faulted).replied kind .state []) := by
  refine (exec_of_request h he ha).trans ?_
  rw [State.refuseState_of_inShift (by rw [State.toHunt_meter, State.advanceTo_meter]; exact hm)]
  have htrips : (s.advanceTo t).toHunt.trips = s.trips := s.advanceTo_trips t
  rw [State.countFault, State.updateShift, htrips]
  rfl

theorem exec_of_offShift {i : Instr} {s : State} {t : Stamp} (h : s.takes) {kind : Byte} {act : State → Answer}
    (he : exec i s = .next (s.request t kind act)) (hm : s.meter.mode = .offShift)
    (ha : act (s.advanceTo t).toHunt = (s.advanceTo t).toHunt.refuseState) :
    exec i s = .next ((s.advanceTo t).replied kind .state []) :=
  exec_of_refused h he
    (ha.trans (State.refuseState_of_offShift (by rw [State.toHunt_meter, State.advanceTo_meter]; exact hm)))

/-! ## STOP and RESUME (R127, R128) -/

theorem State.stop_of_not_hired (h : s.meter.mode ≠ .hired) : s.stop = s.refuseState := by
  rw [State.stop, if_pos h]

theorem State.stop_of_hired (h : s.meter.mode = .hired) : s.stop = s.stopTrip.doneWith [s.stopTrip.chargedField] := by
  rw [State.stop, if_neg (not_not.mpr h)]

theorem State.underTariff_of {p : Trip} {T : Tariff} (hp : s.meter.trip = some p) (ht : s.tariff p.tariff = some T)
    (f : Tariff → Trip → Trip) : s.underTariff f = s.setMeter { s.meter with trip := some (f T p) } := by
  rw [State.underTariff, hp]
  simp only [ht]

theorem State.dropTest_now {p : Trip} {t : Tariff} (hp : s.meter.trip = some p) (ht : s.tariff p.tariff = some t) :
    s.dropTest.now = s.now := by
  obtain ⟨p', c, -, h, -⟩ := State.dropLoop_eq s.dropBound hp ht
  rw [State.dropTest, h]
  rfl

/-- The trip that a STOP leaves to the drop test: settled to the hired metres, with its partial second (R127). -/
def Trip.stopped (p : Trip) (t : Tariff) (vmax m : Nat) : Trip :=
  { p with
    clamp := p.clamp || decide (vmax < m)
    metres := sumUp p.metres (min m vmax)
    progress := p.progress + min m vmax * t.time }

/-- The state that a STOP leaves to the drop test. -/
def State.stopping (s : State) (c : Calibration) (p : Trip) (t : Tariff) : State :=
  (s.setMeter { s.meter with m := 0, trip := some (p.stopped t c.vmax s.meter.m) }).setTrips
    { s.trips with
      odometer := sumUp s.trips.odometer (min s.meter.m c.vmax)
      current := s.trips.current.map (ShiftRecord.clamp c.vmax s.meter.m) }

theorem State.underTariff_settleHired {p : Trip} {T : Tariff} (hc : s.meter.calibration = some c)
    (hm : s.meter.mode ≠ .offShift) (hp : s.meter.trip = some p) (ht : s.tariff p.tariff = some T) :
    s.settleHired.underTariff (fun t p => { p with progress := p.progress + min s.meter.m c.vmax * t.time }) =
      s.stopping c p T := by
  rw [State.settleHired_eq hc hm, hp, Option.map_some,
    State.underTariff_of (p := Trip.addMetres (min s.meter.m c.vmax) (p.clampIf (decide (c.vmax < s.meter.m))))
      (T := T) ?_ ?_]
  · rfl
  · rfl
  · exact ht

theorem State.stopTrip_eq {p : Trip} {T : Tariff} (hc : s.meter.calibration = some c) (hm : s.meter.mode = .hired)
    (hp : s.meter.trip = some p) (ht : s.tariff p.tariff = some T) :
    s.stopTrip =
      (s.stopping c p T).dropTest.setMeter
        { (s.stopping c p T).dropTest.meter with
          mode := .stopped
          trip := (s.stopping c p T).dropTest.meter.trip.map (fun p => { p with stopStamp := some s.now }) } := by
  have hin : s.meter.mode ≠ .offShift := by rw [hm]; decide
  have hmetres : s.clampMetres.meter.m = min s.meter.m c.vmax := by
    rw [State.clampMetres_of_inShift hc hin, State.setTrips_meter, State.setMeter_meter]
  have hnow : (s.stopping c p T).dropTest.now = s.now :=
    State.dropTest_now (p := p.stopped T c.vmax s.meter.m) (t := T) rfl ht
  rw [State.stopTrip, hmetres]
  simp only
  rw [State.underTariff_settleHired hc hin hp ht, hnow]
  generalize (s.stopping c p T).dropTest = q
  rfl

theorem State.resume_of_not_stopped (h : s.meter.mode ≠ .stopped) : s.resume = s.refuseState := by
  rw [State.resume, if_pos h]

theorem State.resume_of_stopped (h : s.meter.mode = .stopped) :
    s.resume =
      if s.resumeGrace = 0 ∨ s.resumeLimit ≤ s.now then s.refuseState
      else s.resumeTrip.doneWith [s.resumeTrip.chargedField] := by
  rw [State.resume, if_neg (not_not.mpr h)]
  by_cases hg : s.resumeGrace = 0
  · rw [if_pos hg, if_pos (Or.inl hg)]
  rw [if_neg hg]
  by_cases hl : s.resumeLimit ≤ s.now
  · rw [if_pos (State.reached_iff.mpr hl), if_pos (Or.inr hl)]
  · rw [if_neg (not_or.mpr ⟨hg, hl⟩), if_neg (mt State.reached_iff.mp hl)]

theorem State.resumeTrip_eq {p : Trip} (hc : s.meter.calibration = some c) (hm : s.meter.mode ≠ .offShift)
    (hp : s.meter.trip = some p) :
    s.resumeTrip =
      (s.setMeter
        { s.meter with
          mode := .hired, m := 0
          trip := some
            { p with clamp := p.clamp || decide (c.vmax < s.meter.m), part := true, resumed := true } }).setTrips
        { s.trips with
          odometer := sumUp s.trips.odometer (min s.meter.m c.vmax)
          current := s.trips.current.map (ShiftRecord.settle c.vmax s.meter.m) } := by
  have hsettled := State.settleVacant_eq hc hm
  rw [hp, Option.map_some] at hsettled
  rw [State.resumeTrip, hsettled]
  rfl

end

end Sys2Proof.Machine

section
open Sys2Proof Sys2Proof.Machine

/-- Settles O28: by the meter state, and by the settlement of a STOP and of a RESUME. -/
theorem stopAndResumeTrip : Obligations.StopAndResumeTrip := by
  intro s t h s0 fault
  have hmeter : s0.toHunt.meter = s.meter := s.advanceTo_meter t
  have htrips : s0.toHunt.trips = s.trips := s.advanceTo_trips t
  have hstop : ∀ m, s.meter.mode = m → m ≠ .hired → s0.toHunt.stop = s0.toHunt.refuseState := fun m hm hne =>
    State.stop_of_not_hired (by rw [hmeter, hm]; exact hne)
  have hresume : ∀ m, s.meter.mode = m → m ≠ .stopped → s0.toHunt.resume = s0.toHunt.refuseState := fun m hm hne =>
    State.resume_of_not_stopped (by rw [hmeter, hm]; exact hne)
  refine ⟨fun hm => ⟨exec_of_offShift h rfl hm (hstop _ hm (by decide)),
      exec_of_offShift h rfl hm (hresume _ hm (by decide))⟩, fun hm => ?_, fun hm => ?_, fun c p hc hp => ⟨?_, ?_, ?_⟩⟩
  · rcases hm with hm | hm
    · exact exec_of_refuseState h rfl (by rw [hm]; decide) (hstop _ hm (by decide))
    · exact exec_of_refuseState h rfl (by rw [hm]; decide) (hstop _ hm (by decide))
  · rcases hm with hm | hm
    · exact exec_of_refuseState h rfl (by rw [hm]; decide) (hresume _ hm (by decide))
    · exact exec_of_refuseState h rfl (by rw [hm]; decide) (hresume _ hm (by decide))
  · intro T hm ht
    have hstopped := State.stopTrip_eq (s := s0.toHunt) (by rw [hmeter]; exact hc) (by rw [hmeter]; exact hm)
      (by rw [hmeter]; exact hp) (by rw [State.tariff, hmeter]; exact ht)
    refine (exec_of_request (act := State.stop) h rfl (State.stop_of_hired (by rw [hmeter]; exact hm))).trans ?_
    have hclamp : ∀ r : ShiftRecord,
        { r with
          clampedMetres :=
            if decide (c.vmax < s.meter.m) = true then sumUp r.clampedMetres (s.meter.m - c.vmax)
            else r.clampedMetres } = r.clamp c.vmax s.meter.m := fun r => by
      rw [ShiftRecord.clamp]
      simp only [decide_eq_true_eq]
    have hbefore : s0.toHunt.stopping c p T =
        (s0.toHunt.setMeter { s.meter with m := 0, trip := some (p.stopped T c.vmax s.meter.m) }).setTrips
          { s.trips with
            odometer := sumUp s.trips.odometer (min s.meter.m c.vmax)
            current := s.trips.current.map (ShiftRecord.clamp c.vmax s.meter.m) } := by
      rw [State.stopping, hmeter, htrips]
    rw [hstopped, hbefore]
    simp only [hclamp]
    rfl
  · intro hm hg
    refine exec_of_refuseState h rfl (by rw [hm]; decide)
      ((State.resume_of_stopped (by rw [hmeter]; exact hm)).trans (if_pos ?_))
    rw [State.resumeLimit, State.resumeGrace, hmeter, hp]
    exact hg
  · intro hm hg hlimit p1
    refine (exec_of_request (act := State.resume) h rfl
      ((State.resume_of_stopped (by rw [hmeter]; exact hm)).trans (if_neg ?_))).trans ?_
    · rw [State.resumeLimit, State.resumeGrace, hmeter, hp]
      exact not_or.mpr ⟨hg, Nat.not_le_of_lt hlimit⟩
    · rw [State.resumeTrip_eq (s := s0.toHunt) (by rw [hmeter]; exact hc) (by rw [hmeter, hm]; decide)
        (by rw [hmeter]; exact hp), hmeter, htrips]
      simp only [decide_eq_true_eq]
      rfl

end
end

section
/-!
PROOFS. WHEEL pulses and the seconds tick (sections 7.3 to 7.6).
-/

namespace Sys2Proof.Machine

section

variable {s : State} {c : Calibration}

theorem Meter.pulse_of_none {x : Meter} (h : x.calibration = none) : x.pulse = x := by
  rw [Meter.pulse, h]

theorem Meter.pulse_of_some {x : Meter} (h : x.calibration = some c) :
    x.pulse =
      { x with residue := (x.residue + 1000) % c.k, m := min 65535 (x.m + (x.residue + 1000) / c.k) } := by
  rw [Meter.pulse, h]

/-! ## The tick outside HIRED (R116) -/

/-- Outside HIRED a tick clamps, allocates and clears, and no band is evaluated. -/
theorem State.tickMeter_of_not_hired (h : s.clampMetres.allocate.meter.mode ≠ .hired) :
    s.tickMeter = s.clampMetres.allocate.clearMetres := by
  unfold State.tickMeter
  simp only [if_neg h]
  rw [State.evaluateBand_of_not_hired (s := s.clampMetres.allocate.clearMetres) h, ite_self]

theorem State.allocate_of_offShift (h : s.meter.mode = .offShift) : s.allocate = s.addOdometer s.meter.m := by
  simp only [State.allocate, State.addOdometer, State.setTrips_meter, h]

theorem State.allocate_of_waiting (h : s.meter.mode = .vacant ∨ s.meter.mode = .stopped) :
    s.allocate = (s.addOdometer s.meter.m).addVacant s.meter.m := by
  rcases h with h | h
  · simp only [State.allocate, State.addOdometer, State.setTrips_meter, h]
  · simp only [State.allocate, State.addOdometer, State.setTrips_meter, h]

theorem State.allocate_of_hired (h : s.meter.mode = .hired) :
    s.allocate = (s.addOdometer s.meter.m).updateTrip (Trip.addMetres s.meter.m) := by
  simp only [State.allocate, State.addOdometer, State.setTrips_meter, h]

theorem State.tickMeter_of_offShift (hc : s.meter.calibration = some c) (hm : s.meter.mode = .offShift)
    (hp : s.meter.trip = none) :
    s.tickMeter =
      (s.setMeter { s.meter with m := 0 }).setTrips
        { s.trips with odometer := sumUp s.trips.odometer (min s.meter.m c.vmax) } := by
  have hclamp := State.clampMetres_of_offShift hc hm hp
  have hallocate : s.clampMetres.allocate = s.clampMetres.addOdometer s.clampMetres.meter.m :=
    State.allocate_of_offShift (by rw [hclamp]; exact hm)
  rw [State.tickMeter_of_not_hired, hallocate, hclamp]
  · rfl
  · rw [hallocate, hclamp]
    show s.meter.mode ≠ .hired
    rw [hm]
    decide

/-- While VACANT or STOPPED a tick settles m to the vacant metres (R116). -/
theorem State.tickMeter_of_waiting (hc : s.meter.calibration = some c)
    (hm : s.meter.mode = .vacant ∨ s.meter.mode = .stopped) : s.tickMeter = s.settleVacant := by
  have hin : s.meter.mode ≠ .offShift := by rcases hm with hm | hm <;> rw [hm] <;> decide
  have hclamp := State.clampMetres_of_inShift hc hin
  have hallocate : s.clampMetres.allocate =
      (s.clampMetres.addOdometer s.clampMetres.meter.m).addVacant s.clampMetres.meter.m :=
    State.allocate_of_waiting (by rw [hclamp]; exact hm)
  rw [State.tickMeter_of_not_hired, hallocate]
  · rfl
  · rw [hallocate, hclamp]
    show s.meter.mode ≠ .hired
    rcases hm with hm | hm <;> rw [hm] <;> decide

theorem sumUp_zero {a : Nat} (h : a ≤ 4294967295) : sumUp a 0 = a := Nat.min_eq_right h

/-- With no calibration and no metre counted a tick outside HIRED leaves the meter and the totals (R114). -/
theorem State.tickMeter_of_uncalibrated (hc : s.meter.calibration = none) (hm : s.meter.mode ≠ .hired)
    (h0 : s.meter.m = 0) (ho : s.trips.odometer ≤ 4294967295)
    (hv : ∀ r, s.trips.current = some r → r.vacantMetres ≤ 4294967295) : s.tickMeter = s := by
  have hclamp : s.clampMetres = s := by rw [State.clampMetres, hc]
  have hodometer : s.addOdometer 0 = s := by
    rw [State.addOdometer, sumUp_zero ho]
    rfl
  have hvacant : s.addVacant 0 = s := by
    have hmap : s.trips.current.map (fun r => { r with vacantMetres := sumUp r.vacantMetres 0 }) = s.trips.current := by
      cases hr : s.trips.current with
      | none => rfl
      | some r => rw [Option.map_some, sumUp_zero (hv r hr)]
    rw [State.addVacant, State.updateShift, hmap]
    rfl
  have hclear : s.clearMetres = s := by
    rw [State.clearMetres, ← h0]
    rfl
  have hallocate : s.clampMetres.allocate = s := by
    rw [hclamp]
    cases hmode : s.meter.mode with
    | offShift => rw [State.allocate_of_offShift hmode, h0, hodometer]
    | vacant => rw [State.allocate_of_waiting (.inl hmode), h0, hodometer, hvacant]
    | hired => exact absurd hmode hm
    | stopped => rw [State.allocate_of_waiting (.inr hmode), h0, hodometer, hvacant]
  rw [State.tickMeter_of_not_hired (by rw [hallocate]; exact hm), hallocate, hclear]

/-! ## The tick while HIRED (R116, R119) -/

/-- The trip after the metres and the contribution of a tick (R118, R119). -/
def Trip.ticked (p : Trip) (t : Tariff) (vmax m : Nat) : Trip :=
  { p with
    clamp := p.clamp || decide (vmax < m)
    metres := sumUp p.metres (min m vmax)
    progress := p.progress + (if p.part then min m vmax * t.time else t.contribution (min m vmax))
    seconds := if p.part then p.seconds else sumUp p.seconds 1
    part := false }

theorem Trip.accrue_eq (p : Trip) (t : Tariff) (m : Nat) :
    p.accrue t m =
      { p with
        progress := p.progress + (if p.part then m * t.time else t.contribution m)
        seconds := if p.part then p.seconds else sumUp p.seconds 1
        part := false } := by
  unfold Trip.accrue
  by_cases hp : p.part = true
  · simp only [hp, if_true]
  · rw [if_neg hp, if_neg hp, if_neg hp, ← Bool.eq_false_of_not_eq_true hp]

/-- The state that a tick while HIRED leaves to the drop test. -/
def State.ticking (s : State) (c : Calibration) (p : Trip) (t : Tariff) : State :=
  (s.setMeter { s.meter with m := min s.meter.m c.vmax, trip := some (p.ticked t c.vmax s.meter.m) }).setTrips
    { s.trips with
      odometer := sumUp s.trips.odometer (min s.meter.m c.vmax)
      current := s.trips.current.map (ShiftRecord.clamp c.vmax s.meter.m) }

theorem State.allocate_clamp_of_hired {p : Trip} (hc : s.meter.calibration = some c) (hm : s.meter.mode = .hired)
    (hp : s.meter.trip = some p) :
    s.clampMetres.allocate =
      (s.setMeter
        { s.meter with
          m := min s.meter.m c.vmax
          trip := some (Trip.addMetres (min s.meter.m c.vmax) (p.clampIf (decide (c.vmax < s.meter.m)))) }).setTrips
        { s.trips with
          odometer := sumUp s.trips.odometer (min s.meter.m c.vmax)
          current := s.trips.current.map (ShiftRecord.clamp c.vmax s.meter.m) } := by
  have hclamp := State.clampMetres_of_inShift hc (by rw [hm]; decide)
  rw [hp, Option.map_some] at hclamp
  rw [State.allocate_of_hired (by rw [hclamp]; exact hm), hclamp]
  rfl

theorem State.accrue_of_hired {p : Trip} {T : Tariff} (hc : s.meter.calibration = some c)
    (hm : s.meter.mode = .hired) (hp : s.meter.trip = some p) (ht : s.tariff p.tariff = some T) :
    s.clampMetres.allocate.accrue = (s.ticking c p T).dropTest := by
  rw [State.accrue, State.allocate_clamp_of_hired hc hm hp,
    State.underTariff_of (p := Trip.addMetres (min s.meter.m c.vmax) (p.clampIf (decide (c.vmax < s.meter.m))))
      (T := T) ?_ ?_]
  · rw [Trip.accrue_eq]
    rfl
  · rfl
  · exact ht

theorem State.tickMeter_of_hired {p : Trip} {T : Tariff} (hc : s.meter.calibration = some c)
    (hm : s.meter.mode = .hired) (hp : s.meter.trip = some p) (ht : s.tariff p.tariff = some T) :
    s.tickMeter =
      if s.onMinute then (s.ticking c p T).dropTest.clearMetres.evaluateBand
      else (s.ticking c p T).dropTest.clearMetres := by
  have hmode : s.clampMetres.allocate.meter.mode = .hired := by
    rw [State.allocate_clamp_of_hired hc hm hp]
    exact hm
  have hminute : (s.ticking c p T).dropTest.clearMetres.onMinute = s.onMinute := by
    obtain ⟨p', port, -, h, -⟩ := State.dropLoop_eq (s := s.ticking c p T) (p := p.ticked T c.vmax s.meter.m) (t := T)
      (s.ticking c p T).dropBound rfl ht
    rw [State.dropTest, h]
    rfl
  rw [← hminute]
  unfold State.tickMeter
  simp only [if_pos hmode]
  rw [State.accrue_of_hired hc hm hp ht]

end

end Sys2Proof.Machine

section
open Sys2Proof Sys2Proof.Machine

/-- Settles O31: by the meter state, from the clamp and the allocation of a tick. -/
theorem pulsesAndSeconds : Obligations.PulsesAndSeconds := by
  intro s t s0 clock dcu
  have hmeter : s0.meter = s.meter := s.advanceTo_meter t
  have htrips : s0.trips = s.trips := s.advanceTo_trips t
  have hclock : s0.tickClock = s0.setDcu dcu := by
    rw [State.tickClock, show s0.dcu = s.dcu from s.advanceTo_dcu t]
    rfl
  have hpulse : s.vdd = true → exec (.wheelPulse t) s = .next (s0.setMeter s.meter.pulse) := fun hv => by
    rw [← hmeter]
    exact exec_of_event (f := fun s => s.setMeter s.meter.pulse) hv rfl
  have htick : s.vdd = true → exec (.secondsTick t) s = .next (s0.setDcu dcu).tickMeter.tickMessages := fun hv => by
    rw [← hclock]
    exact congrArg Host.Outcome.next ((if_pos hv).trans (State.event_of_vdd hv t _))
  refine ⟨fun hv => ?_, fun hv hc => ?_, fun hv hc h0 hm ho hr => ?_, fun c hv hc => ?_⟩
  · exact congrArg Host.Outcome.next (if_neg (by rw [hv]; decide))
  · rw [hpulse hv, Meter.pulse_of_none hc, ← hmeter]
    rfl
  · rw [htick hv, State.tickMeter_of_uncalibrated (s := s0.setDcu dcu)]
    · exact hmeter ▸ hc
    · exact hmeter ▸ hm
    · exact hmeter ▸ h0
    · exact htrips ▸ ho
    · exact htrips ▸ hr
  have hclamp : ∀ r : ShiftRecord,
      (if decide (c.vmax < s.meter.m) = true then sumUp r.clampedMetres (s.meter.m - c.vmax) else r.clampedMetres) =
        (r.clamp c.vmax s.meter.m).clampedMetres := fun r => by
    rw [ShiftRecord.clamp]
    simp only [decide_eq_true_eq]
  have hc' : (s0.setDcu dcu).meter.calibration = some c := hmeter ▸ hc
  refine ⟨by rw [hpulse hv, Meter.pulse_of_some hc], fun hm hp => ?_, fun hm => ?_, fun p T hm hp ht => ?_⟩
  · rw [htick hv, State.tickMeter_of_offShift hc' (hmeter ▸ hm) (hmeter ▸ hp), State.setDcu_meter, State.setDcu_trips,
      hmeter, htrips]
  · have hin : (s0.setDcu dcu).meter.mode ≠ .offShift := by
      rw [State.setDcu_meter, hmeter]
      rcases hm with hm | hm <;> rw [hm] <;> decide
    rw [htick hv, State.tickMeter_of_waiting hc' (hmeter ▸ hm), State.settleVacant_eq hc' hin, State.setDcu_meter,
      State.setDcu_trips, hmeter, htrips]
    simp only [hclamp]
    rfl
  · have hticking : (s0.setDcu dcu).ticking c p T =
        ((s0.setDcu dcu).setMeter
          { s.meter with m := min s.meter.m c.vmax, trip := some (p.ticked T c.vmax s.meter.m) }).setTrips
          { s.trips with
            odometer := sumUp s.trips.odometer (min s.meter.m c.vmax)
            current := s.trips.current.map (ShiftRecord.clamp c.vmax s.meter.m) } := by
      rw [State.ticking, State.setDcu_meter, State.setDcu_trips, hmeter, htrips]
    rw [htick hv, State.tickMeter_of_hired hc' (hmeter ▸ hm) (hmeter ▸ hp)
      (show (s0.setDcu dcu).tariff p.tariff = some T by rw [State.tariff, State.setDcu_meter, hmeter]; exact ht), hticking]
    simp only [hclamp]
    rfl

end
end

section
/-!
PROOFS. EXTRA and PAY (sections 7.10 to 7.12), with the record of a closed trip (chapter 8).
-/

namespace Sys2Proof.Machine

section

variable {s : State}

/-! ## EXTRA (R129) -/

theorem State.extra_of_large {index : Nat} (h : 7 < index) : s.extra index = s.refuse .argument := by
  rw [State.extra, if_pos h]

theorem State.extra_of_not_running {index : Nat} (h : ¬ 7 < index)
    (hm : s.meter.mode ≠ .hired ∧ s.meter.mode ≠ .stopped) : s.extra index = s.refuseState := by
  rw [State.extra, if_neg h, if_pos hm]

theorem State.extra_of_running {index : Nat} (h : ¬ 7 < index) (hm : s.meter.mode = .hired ∨ s.meter.mode = .stopped)
    {p : Trip} (hp : s.meter.trip = some p) :
    s.extra index =
      if (s.extraRate index).maximum ≤ (p.extrasCounts[index]?).getD 0 then s.refuse .full
      else
        (s.setMeter { s.meter with trip := some (p.addExtra index (s.extraRate index).amount) }).doneWith
          [be 3 (p.addExtra index (s.extraRate index).amount).charged] := by
  rw [State.extra, if_neg h, if_neg fun hn => hm.elim hn.1 hn.2, hp]
  rfl

/-! ## PAY (R131) -/

theorem State.pay_of_none {form : Byte} (h : PayForm.ofRequest form = none) : s.pay form = s.refuse .argument := by
  rw [State.pay, h]

theorem State.pay_of_not_stopped {form : Byte} {f : PayForm} (h : PayForm.ofRequest form = some f)
    (hm : s.meter.mode ≠ .stopped) : s.pay form = s.refuseState := by
  rw [State.pay, h]
  exact if_pos hm

theorem State.pay_of_stopped {form : Byte} {f : PayForm} (h : PayForm.ofRequest form = some f)
    (hm : s.meter.mode = .stopped) {p : Trip} (hp : s.meter.trip = some p) :
    s.pay form =
      if f = .account ∧ p.account = none then s.refuse .argument
      else (s.payTrip p f).doneWith [be 3 p.charged, be 4 s.trips.sequence] := by
  rw [State.pay, h]
  refine (if_neg (not_not.mpr hm)).trans ?_
  rw [hp]

theorem PayForm.ofRequest_ne_unsettled {form : Byte} : PayForm.ofRequest form ≠ some .unsettled := by
  unfold PayForm.ofRequest
  split_ifs <;> decide

/-- The shift record after a closed trip, field by field (R139, R140). -/
theorem ShiftRecord.add_countLost (r : ShiftRecord) (lost : Bool) {p : Trip} {sequence : Nat} {form : PayForm}
    (hf : form ≠ .unsettled) :
    (r.countLost lost).add (p.record sequence form false) =
      { r with
        unreportedLost := if lost then min 65535 (r.unreportedLost + 1) else r.unreportedLost
        trips := min 65535 (r.trips + 1)
        hiredMetres := sumUp r.hiredMetres p.metres
        hiredSeconds := sumUp r.hiredSeconds p.seconds
        fareSum := sumUp r.fareSum p.fare
        extrasSum := sumUp r.extrasSum p.extras
        surchargeSum := sumUp r.surchargeSum p.surcharge
        chargedSum := sumUp r.chargedSum p.charged
        cashSum := sumUp r.cashSum (if form = .cash then p.charged else 0)
        cardSum := sumUp r.cardSum (if form = .card then p.charged else 0)
        accountSum := sumUp r.accountSum (if form = .account then p.charged else 0)
        unsettledSum := sumUp r.unsettledSum 0
        fixedTrips := if p.price.isSome then min 65535 (r.fixedTrips + 1) else r.fixedTrips
        firstTrip := some (r.firstTrip.getD sequence)
        lastTrip := some sequence } := by
  have hunsettled : (p.record sequence form false).paid .unsettled = 0 := if_neg hf
  rw [ShiftRecord.add, hunsettled]
  cases lost <;> rfl

theorem State.tripReady_jobs (s : State) (before : Trips) : (s.tripReady before).jobs = s.jobs := by
  have hwork := (s.tripReady_radioStep before).work
  rw [State.radioWork] at hwork
  exact (congrArg State.jobs hwork).trans rfl

theorem State.tripReady_meter (s : State) (before : Trips) : (s.tripReady before).meter = s.meter := by
  have hwork := (s.tripReady_radioStep before).work
  rw [State.radioWork] at hwork
  exact (congrArg State.meter hwork).trans rfl

/-- The Job Book at a trip close leaves the meter (R103). -/
theorem State.tripClosed_meter (s : State) (bound : Option Nat) : (s.tripClosed bound).meter = s.meter := by
  unfold State.tripClosed
  split
  · rename_i j _
    obtain ⟨m, c, -, -, -, hgone⟩ := (s.setJobs { s.jobs with active := none }).jobGone_eq j.number
    rw [State.leaveActive, State.promote_meter, hgone, State.setCab_meter, State.setMsgs_meter, State.setJobs_meter]
  · rfl
  · rw [State.promote_meter]

theorem State.tripClosed_of_active {j : Job} (h : s.jobs.active = some j) (number : Nat) :
    s.tripClosed (some number) = ((s.setJobs { s.jobs with active := none }).jobGone j.number).promote := by
  unfold State.tripClosed
  rw [h]
  rfl

theorem State.tripClosed_of_empty (h : s.jobs.active = none) (number : Nat) : s.tripClosed (some number) = s := by
  unfold State.tripClosed
  rw [h]

end

end Sys2Proof.Machine

section
open Sys2Proof Sys2Proof.Machine

/-- Settles O30: by the meter state, and by the record and the sums that a PAY leaves. -/
theorem extraAndPay : Obligations.ExtraAndPay := by
  intro s t b h s0 fault rate form running
  have hmeter : s0.toHunt.meter = s.meter := s.advanceTo_meter t
  have htrips : s0.toHunt.trips = s.trips := s.advanceTo_trips t
  have hjobs : s0.toHunt.jobs = s.jobs := s.advanceTo_jobs t
  have hidle : ∀ m, s.meter.mode = m → m ≠ .hired → m ≠ .stopped → ¬ 7 < b.toNat →
      s0.toHunt.extra b.toNat = s0.toHunt.refuseState := fun m hm h1 h2 hb =>
    State.extra_of_not_running hb (by rw [hmeter, hm]; exact ⟨h1, h2⟩)
  have hunpaid : ∀ m, s.meter.mode = m → m ≠ .stopped → form ≠ none → s0.toHunt.pay b = s0.toHunt.refuseState := by
    intro m hm hne hform
    obtain ⟨f, hf⟩ := Option.ne_none_iff_exists'.mp hform
    exact State.pay_of_not_stopped (f := f) hf (by rw [hmeter, hm]; exact hne)
  refine ⟨fun hb => ?_, fun hb hm => ?_, fun hb hm => ?_, fun p hp hb hm => ?_, fun hf => ?_, fun hf hm => ?_,
    fun hf hm => ?_, fun p hp hf hm ha => ?_, fun p f hp hf hm ha => ?_⟩
  · exact exec_of_refused h rfl (State.extra_of_large hb)
  · exact exec_of_offShift h rfl hm (hidle _ hm (by decide) (by decide) (Nat.not_lt_of_le hb))
  · exact exec_of_refuseState h rfl (by rw [hm]; decide) (hidle _ hm (by decide) (by decide) (Nat.not_lt_of_le hb))
  · have hextra := State.extra_of_running (s := s0.toHunt) (Nat.not_lt_of_le hb) (by rw [hmeter]; exact hm)
      (by rw [hmeter]; exact hp)
    have hrate : s0.toHunt.extraRate b.toNat = rate := by
      rw [State.extraRate, hmeter]
    rw [hrate, hmeter] at hextra
    refine ⟨fun hfull => exec_of_refused h rfl (hextra.trans (if_pos hfull)), fun hroom => ?_⟩
    refine ⟨p.addExtra b.toNat rate.amount, ?_, rfl, rfl⟩
    exact exec_of_request (act := fun s => s.extra b.toNat) h rfl (hextra.trans (if_neg (Nat.not_le_of_lt hroom)))
  · exact exec_of_refused h rfl (State.pay_of_none hf)
  · exact exec_of_offShift h rfl hm (hunpaid _ hm (by decide) hf)
  · rcases hm with hm | hm
    · exact exec_of_refuseState h rfl (by rw [hm]; decide) (hunpaid _ hm (by decide) hf)
    · exact exec_of_refuseState h rfl (by rw [hm]; decide) (hunpaid _ hm (by decide) hf)
  · exact exec_of_refused h rfl
      ((State.pay_of_stopped hf (by rw [hmeter]; exact hm) (by rw [hmeter]; exact hp)).trans (if_pos ⟨rfl, ha⟩))
  · have hpay := (State.pay_of_stopped (s := s0.toHunt) (form := b) hf (by rw [hmeter]; exact hm)
      (by rw [hmeter]; exact hp)).trans (if_neg fun hc => ha hc.1 hc.2)
    intro record lost trips s1 s2 s3
    have hunsettled : f ≠ .unsettled := fun hu => PayForm.ofRequest_ne_unsettled (form := b) (hu ▸ hf)
    have hclose : s.trips.close p f false s0.now = trips := by
      have hadd := fun r : ShiftRecord =>
        r.add_countLost (s.trips.slotUnreported s.trips.sequence) (p := p) (sequence := s.trips.sequence) hunsettled
      unfold Trips.close
      simp only [hadd]
      rfl
    have hclosed : (s0.toHunt.setMeter { s.meter with mode := .vacant }).closeTrip p f = s2 := by
      rw [State.closeTrip, State.setMeter_trips, htrips]
      exact congrArg (fun x => ((s0.toHunt.setMeter { s.meter with mode := .vacant }).setTrips x).tripReady s.trips) hclose
    have hjobs2 : s2.jobs = s.jobs := by
      rw [← hclosed, State.closeTrip, State.tripReady_jobs]
      exact hjobs
    have hmeter2 : s2.meter = { s.meter with mode := .vacant } := by
      rw [← hclosed, State.closeTrip, State.tripReady_meter]
      rfl
    have hbook : s2.tripClosed p.job = s3 := by
      simp only [s3]
      cases hp : p.job with
      | none => rfl
      | some number =>
        cases hj : s.jobs.active with
        | none => exact State.tripClosed_of_empty (by rw [hjobs2]; exact hj) number
        | some j =>
          rw [State.tripClosed_of_active (by rw [hjobs2]; exact hj), hjobs2]
    refine (exec_of_request (act := fun s => s.pay b) h rfl hpay).trans ?_
    rw [State.payTrip, hmeter, hclosed]
    simp only
    rw [State.tripClosed_meter, hmeter2, hbook, htrips]
    rfl

end
end

section
/-!
PROOFS. HIRE (sections 7.7 and 7.8), with the offers that it prunes (section 5.7).
-/

namespace Sys2Proof.Machine

/-! ## The pruned offers (R85) -/

@[simp] theorem State.dropOffer_offers (s : State) (e : OfferEntry) (cause : OfferCause) :
    (s.dropOffer e cause).offers = s.offers.remove e.number := by
  rw [State.dropOffer, State.offerNotice_offers, State.setOffers_offers]

@[simp] theorem State.dropOffer_meter (s : State) (e : OfferEntry) (cause : OfferCause) :
    (s.dropOffer e cause).meter = s.meter := by
  rw [State.dropOffer, State.offerNotice_meter, State.setOffers_meter]

/-- Entries removed one after another leave the table without their numbers. -/
theorem State.foldl_dropped_table {f : State → OfferEntry → State}
    (hf : ∀ s e, (f s e).offers = s.offers.remove e.number) (l : List OfferEntry) (s : State) :
    (l.foldl f s).offers.table = s.offers.table.filter (fun x => l.all (fun e => x.number != e.number)) := by
  induction l generalizing s with
  | nil => exact (List.filter_true _).symm
  | cons e rest ih =>
    rw [List.foldl_cons, ih, hf, Offers.remove, List.filter_filter]
    simp only [List.all_cons, Bool.and_comm]

theorem State.foldl_kept_meter {f : State → OfferEntry → State} (hf : ∀ s e, (f s e).meter = s.meter)
    (l : List OfferEntry) (s : State) : (l.foldl f s).meter = s.meter := by
  induction l generalizing s with
  | nil => rfl
  | cons e rest ih => rw [List.foldl_cons, ih, hf]

theorem State.pruneAccepted_offers (s : State) (e : OfferEntry) :
    (s.pruneAccepted e).offers = s.offers.remove e.number := by
  rw [State.pruneAccepted, State.dropOffer_offers, State.removeBid_offers]

theorem State.pruneOffers_meter (s : State) : s.pruneOffers.meter = s.meter := by
  rw [State.pruneOffers, State.foldl_kept_meter (fun s e => ?_), State.foldl_kept_meter (fun s e => ?_)]
  · exact s.dropOffer_meter e _
  · rw [State.pruneAccepted, State.dropOffer_meter, State.removeBid, State.removeEntries_meter]

/-- Of a table with distinct numbers, no entry of a part has the number of an entry outside it. -/
theorem all_number_ne_filter {α : Type} {number : α → Nat} {table : List α} (hd : (table.map number).Nodup)
    (test : α → Bool) {x : α} (hx : x ∈ table) :
    (table.filter test).all (fun e => number x != number e) = !test x := by
  rw [Bool.eq_iff_iff, List.all_eq_true, Bool.not_eq_true']
  constructor
  · intro hall
    refine Bool.eq_false_of_not_eq_true fun ht => ?_
    simpa using hall x (List.mem_filter.mpr ⟨hx, ht⟩)
  · intro hx' e he
    obtain ⟨he, ht⟩ := List.mem_filter.mp he
    rw [bne_iff_ne]
    intro heq
    rw [List.inj_on_of_nodup_map hd hx he heq, ht] at hx'
    cases hx'

/-- At a hire start the STREET entries that are OFFERED or ACCEPTED leave (R85). -/
theorem State.pruneOffers_table {s : State} (hd : (s.offers.table.map (fun e => e.number)).Nodup) :
    s.pruneOffers.offers.table = s.offers.table.filter (fun e => e.kind != .street || e.state == .bidSent) := by
  have hoffered := State.foldl_dropped_table (f := State.pruneOffered) (fun s e => s.dropOffer_offers e .hire)
    (s.offers.street .offered) s
  have hleft : ((s.offers.street .offered).foldl State.pruneOffered s).offers.table =
      s.offers.table.filter (fun e => !(e.kind == .street && e.state == .offered)) :=
    hoffered.trans (List.filter_congr fun x hx => all_number_ne_filter (number := fun e : OfferEntry => e.number) hd _ hx)
  have hd' := hd.sublist ((List.filter_sublist
    (p := fun e : OfferEntry => !(e.kind == .street && e.state == .offered)) (l := s.offers.table)).map (fun e => e.number))
  rw [State.pruneOffers, State.foldl_dropped_table State.pruneAccepted_offers, Offers.street, hleft]
  rw [List.filter_congr fun x hx => all_number_ne_filter (number := fun e : OfferEntry => e.number) hd' _ hx,
    List.filter_filter]
  refine List.filter_congr fun x _ => ?_
  cases x.kind with
  | prebook => rfl
  | street => cases x.state <;> rfl

/-! ## HIRE (R122, R123) -/

section

variable {s : State}

theorem State.hire_of_form {form : Byte} (h0 : form ≠ 0) (h1 : form ≠ 1) : s.hire form = s.refuse .argument := by
  rw [State.hire, if_pos ⟨h0, h1⟩]

theorem State.hire_of_not_vacant {form : Byte} (hf : form = 0 ∨ form = 1) (hm : s.meter.mode ≠ .vacant) :
    s.hire form = s.refuseState := by
  rw [State.hire, if_neg fun h => hf.elim h.1 h.2, if_pos hm]

theorem State.noTariff_iff : s.noTariff = true ↔ s.meter.active = none ∧ s.swapDue = none := by
  rw [State.noTariff, Bool.and_eq_true, Option.isNone_iff_eq_none, Option.isNone_iff_eq_none]

/-- The test for a tariff and a calibration in force (R122). -/
def State.untabled (s : State) : Prop := s.meter.calibration = none ∨ (s.meter.active = none ∧ s.swapDue = none)

theorem State.hire_of_untabled {form : Byte} (hf : form = 0 ∨ form = 1) (hm : s.meter.mode = .vacant)
    (ht : s.untabled) : s.hire form = s.refuse .table := by
  rw [State.hire, if_neg fun h => hf.elim h.1 h.2, if_neg (not_not.mpr hm),
    if_pos (ht.imp_right State.noTariff_iff.mpr)]

theorem State.hire_of_street (hm : s.meter.mode = .vacant) (ht : ¬ s.untabled) : s.hire 1 = s.hireWith none := by
  rw [State.hire, if_neg (by decide), if_neg (not_not.mpr hm),
    if_neg fun h => ht (h.imp_right State.noTariff_iff.mp), if_pos rfl]

theorem State.hire_of_unbound (hm : s.meter.mode = .vacant) (ht : ¬ s.untabled) (hj : s.jobs.bindable = none) :
    s.hire 0 = s.refuseState := by
  rw [State.hire, if_neg (by decide), if_neg (not_not.mpr hm),
    if_neg fun h => ht (h.imp_right State.noTariff_iff.mp), if_neg (by decide), hj]

theorem State.hire_of_bound (hm : s.meter.mode = .vacant) (ht : ¬ s.untabled) {j : Job}
    (hj : s.jobs.bindable = some j) : s.hire 0 = s.hireWith (some j) := by
  rw [State.hire, if_neg (by decide), if_neg (not_not.mpr hm),
    if_neg fun h => ht (h.imp_right State.noTariff_iff.mp), if_neg (by decide), hj]

/-- The banks after the swap that is due, if one is (R121, log entry 15). -/
theorem State.swapBank_of_tariff {b : Bank}
    (h : s.swapDue = some b ∨ (s.swapDue = none ∧ s.meter.active = some b)) :
    s.swapBank =
      s.setMeter
        { s.meter with
          active := some b
          pendingBank := if s.swapDue.isSome then none else s.meter.pendingBank
          ready := if s.swapDue.isSome then false else s.meter.ready } := by
  rcases h with h | ⟨h, ha⟩
  · rw [State.swapBank, h]
    rfl
  · rw [State.swapBank, h, ← ha]
    rfl

/-- The state of a hire start with its trip, before the job is bound (R123, steps 1 to 6). -/
def State.hiring (s : State) (b : Bank) (c : Calibration) (bound : Option Job) : State :=
  (s.setMeter
    { s.meter with
      m := 0, trip := some (s.newTrip b.set bound), active := some b
      pendingBank := if s.swapDue.isSome then none else s.meter.pendingBank
      ready := if s.swapDue.isSome then false else s.meter.ready }).setTrips
    { s.trips with
      odometer := sumUp s.trips.odometer (min s.meter.m c.vmax)
      current := s.trips.current.map (ShiftRecord.settle c.vmax s.meter.m) }

theorem State.bindIf_meter (s : State) (bound : Option Job) : (s.bindIf bound).meter = s.meter := by
  cases bound with
  | none => rfl
  | some j => rw [State.bindIf, State.bindJob, State.jobStatus, State.queue, State.join_meter, State.setJobs_meter]

theorem State.newTrip_of_settled {set : TariffSet} {bound : Option Job} (meter : Meter) (trips : Trips)
    (h : trips.current.map (fun r => r.number) = s.trips.current.map (fun r => r.number)) :
    ((s.setMeter meter).setTrips trips).newTrip set bound = s.newTrip set bound := by
  rw [State.newTrip, State.setTrips_trips, h]
  rfl

theorem State.startHire_eq {b : Bank} {c : Calibration} (bound : Option Job) (hc : s.meter.calibration = some c)
    (hm : s.meter.mode = .vacant) (h : s.swapDue = some b ∨ (s.swapDue = none ∧ s.meter.active = some b)) :
    s.swapBank.startHire b.set bound =
      (((s.hiring b c bound).bindIf bound).setMeter { (s.hiring b c bound).meter with mode := .hired }).pruneOffers := by
  have hsettled := State.settleVacant_eq (s := s.swapBank) (c := c)
    (by rw [State.swapBank_of_tariff h]; exact hc) (by rw [State.swapBank_of_tariff h, State.setMeter_meter, hm]; decide)
  have hnumber : (s.trips.current.map (ShiftRecord.settle c.vmax s.meter.m)).map (fun r => r.number) =
      s.trips.current.map (fun r => r.number) := by
    rw [Option.map_map]
    rfl
  have hhiring : s.swapBank.settleVacant.setMeter
      { s.swapBank.settleVacant.meter with trip := some (s.swapBank.settleVacant.newTrip b.set bound) } =
        s.hiring b c bound := by
    rw [hsettled, State.swapBank_of_tariff h]
    rw [State.newTrip_of_settled (s := s.setMeter _) _ _ hnumber]
    rfl
  unfold State.startHire
  simp only
  rw [hhiring, State.bindIf_meter]

/-- A hire start that passes its tests: the tariff and the charged amount are answered (R123). -/
theorem State.hireWith_eq {b : Bank} {c : Calibration} (bound : Option Job) (hc : s.meter.calibration = some c)
    (hm : s.meter.mode = .vacant) (h : s.swapDue = some b ∨ (s.swapDue = none ∧ s.meter.active = some b)) :
    s.hireWith bound =
      (((s.hiring b c bound).bindIf bound).setMeter
        { (s.hiring b c bound).meter with mode := .hired }).pruneOffers.doneWith
        [be 1 (s.select b.set), be 3 (s.newTrip b.set bound).charged] := by
  have hactive : s.swapBank.meter.active = some b := by rw [State.swapBank_of_tariff h, State.setMeter_meter]
  unfold State.hireWith
  simp only [hactive]
  rw [State.startHire_eq bound hc hm h, State.chargedField, State.chargedSoFar, State.pruneOffers_meter]
  rfl

end

end Sys2Proof.Machine

section
open Sys2Proof Sys2Proof.Machine

/-- Settles O27: by the tests of R122 in their order, and by the parts of the hire start. -/
theorem hireStartsTrip : Obligations.HireStartsTrip := by
  intro s t form h s0 fault
  have hmeter : s0.toHunt.meter = s.meter := s.advanceTo_meter t
  have htrips : s0.toHunt.trips = s.trips := s.advanceTo_trips t
  have hjobs : s0.toHunt.jobs = s.jobs := s.advanceTo_jobs t
  have hdcu : s0.toHunt.dcu = s.dcu := s.advanceTo_dcu t
  have hzone : s0.toHunt.zone = s.zone := s.advanceTo_zone t
  have hswap : s0.toHunt.swapDue = s.swapDue := by
    unfold State.swapDue State.effective
    rw [hmeter, State.wallStamp_of_dcu hdcu]
  have hbusy : form = 0 ∨ form = 1 → s.meter.mode ≠ .vacant →
      s0.toHunt.hire form = s0.toHunt.refuseState := fun hf hm =>
    State.hire_of_not_vacant hf (by rw [hmeter]; exact hm)
  have hmode : s.meter.mode = .vacant → s0.toHunt.meter.mode = .vacant := fun hm => by rw [hmeter, hm]
  have htabled : ∀ {c b}, s.meter.calibration = some c → s.meter.active = some b ∨ s.swapDue = some b →
      ¬ s0.toHunt.untabled := by
    rintro c b hc hb (h | ⟨ha, hs⟩)
    · rw [hmeter, hc] at h
      cases h
    · rw [hmeter] at ha
      rw [hswap] at hs
      rcases hb with hb | hb
      · cases ha.symm.trans hb
      · cases hs.symm.trans hb
  refine ⟨fun h0 h1 => ?_, fun hf hm => ?_, fun hf hm => ?_, fun hf hm ht => ?_, fun c b hf hm hc hb hj => ?_,
    fun c b bound hm hc hb hbound => ?_, fun hd => State.pruneOffers_table hd⟩
  · exact exec_of_refused h rfl (State.hire_of_form h0 h1)
  · exact exec_of_offShift h rfl hm (hbusy hf (by rw [hm]; decide))
  · rcases hm with hm | hm
    · exact exec_of_refuseState h rfl (by rw [hm]; decide) (hbusy hf (by rw [hm]; decide))
    · exact exec_of_refuseState h rfl (by rw [hm]; decide) (hbusy hf (by rw [hm]; decide))
  · exact exec_of_refused h rfl
      (State.hire_of_untabled hf (hmode hm) (by rw [State.untabled, hmeter, hswap]; exact ht))
  · subst hf
    exact exec_of_refuseState h rfl (by rw [hm]; decide)
      (State.hire_of_unbound (hmode hm) (htabled hc hb) (by rw [hjobs, hj]))
  · have ht := htabled hc (hb.symm.imp_left And.right)
    have hstart : s0.toHunt.hire form = s0.toHunt.hireWith bound := by
      rcases hbound with ⟨rfl, rfl⟩ | ⟨rfl, hs, hj⟩
      · exact State.hire_of_street (hmode hm) ht
      · obtain ⟨j, rfl⟩ := Option.isSome_iff_exists.mp hs
        exact State.hire_of_bound (hmode hm) ht (by rw [hjobs, hj])
    have hselect : s0.toHunt.select b.set = s.select b.set := by
      rw [State.select, State.select, hdcu]
    have htrip : s0.toHunt.newTrip b.set bound = s.newTrip b.set bound := by
      rw [State.newTrip, State.newTrip, hselect, htrips, State.wallStamp_of_dcu hdcu, State.surchargeClass,
        State.surchargeClass, State.directoryByte_of_dcu hdcu, hzone]
    have hhiring : s0.toHunt.hiring b c bound =
        (s0.toHunt.setMeter
          { s.meter with
            m := 0, trip := some (s.newTrip b.set bound), active := some b
            pendingBank := if s.swapDue.isSome then none else s.meter.pendingBank
            ready := if s.swapDue.isSome then false else s.meter.ready }).setTrips
          { s.trips with
            odometer := sumUp s.trips.odometer (min s.meter.m c.vmax)
            current := s.trips.current.map (ShiftRecord.settle c.vmax s.meter.m) } := by
      rw [State.hiring, htrip, hswap, hmeter, htrips]
    have hhire := State.hireWith_eq (s := s0.toHunt) (b := b) bound (by rw [hmeter]; exact hc) (by rw [hmeter]; exact hm)
      (by rw [hswap, hmeter]; exact hb)
    rw [hselect, htrip, hhiring] at hhire
    refine (exec_of_request (act := fun s => s.hire form) h rfl (hstart.trans hhire)).trans ?_
    cases bound with
    | none => rfl
    | some j =>
      rw [State.bindIf, State.bindJob, State.setTrips_jobs, State.setMeter_jobs, hjobs]
      rfl

end
end

section
/-!
PROOFS. The text expander (section 9.1).
-/

namespace Sys2Proof.Machine

/-- Positions of characters, all with one emphasis. -/
def positionsOf (emphasis : Bool) (chars : List (BitVec 7)) : List DisplayPos :=
  chars.map fun c => { char := c, emphasis := emphasis }

section

variable {limit : Nat} {emphasis : Bool} {made : List DisplayPos}

/-- Characters are added up to the limit (R157). -/
theorem addPositions_of_fits {chars : List (BitVec 7)} (h : made.length + chars.length ≤ limit) :
    addPositions limit emphasis chars made = (made ++ positionsOf emphasis chars, false) := by
  induction chars generalizing made with
  | nil => exact congrArg (·, false) (List.append_nil made).symm
  | cons c rest ih =>
    rw [List.length_cons] at h
    rw [addPositions, if_neg (by omega), ih (by rw [List.length_append, List.length_singleton]; omega),
      List.append_assoc]
    rfl

theorem addPositions_of_over {chars : List (BitVec 7)} (hmade : made.length ≤ limit)
    (h : ¬ made.length + chars.length ≤ limit) :
    addPositions limit emphasis chars made =
      (made ++ (positionsOf emphasis chars).take (limit - made.length), true) := by
  induction chars generalizing made with
  | nil => exact absurd hmade h
  | cons c rest ih =>
    rw [List.length_cons] at h
    rw [addPositions]
    by_cases hfull : limit ≤ made.length
    · rw [if_pos hfull, Nat.sub_eq_zero_of_le hfull, List.take_zero, List.append_nil]
    · obtain ⟨room, hroom⟩ : ∃ room, limit - made.length = room + 1 := ⟨limit - made.length - 1, by omega⟩
      rw [if_neg hfull, ih (by rw [List.length_append, List.length_singleton]; omega)
        (by rw [List.length_append, List.length_singleton]; omega), List.append_assoc, hroom, List.length_append,
        List.length_singleton, show limit - (made.length + 1) = room by omega]
      rfl

theorem addPositions_singleton (c : BitVec 7) :
    addPositions limit emphasis [c] made =
      if made.length < limit then (made ++ [{ char := c, emphasis := emphasis }], false) else (made, true) := by
  rw [addPositions, addPositions]
  by_cases h : made.length < limit
  · rw [if_pos h, if_neg (Nat.not_le_of_lt h)]
  · rw [if_neg h, if_pos (Nat.le_of_not_lt h)]

end

section

variable (book : Option Memory) (limit : Nat) (rest : List Nat) (setB emphasis : Bool) (made : List DisplayPos)

/-- A single character joins, or the limit ends the text (R157). -/
def expandChar (char : BitVec 7) : Text :=
  if made.length < limit then
    expandFrom book limit rest setB emphasis (made ++ [{ char := char, emphasis := emphasis }])
  else { positions := made, truncated := true }

theorem expandFrom_of_char {code : Nat} (h60 : code ≠ 60) (h61 : code ≠ 61) (h63 : code ≠ 63) :
    expandFrom book limit (code :: rest) setB emphasis made =
      expandChar book limit rest setB emphasis made (if code = 62 then substitution else charOf setB code) := by
  unfold expandFrom
  rw [if_neg h60, if_neg h61, if_neg h63, addPositions_singleton, expandChar]
  by_cases h : made.length < limit
  · rw [if_pos h, if_pos h]
  · rw [if_neg h, if_neg h]

theorem expandFrom_of_end : expandFrom book limit (63 :: rest) setB emphasis made =
    { positions := made, truncated := false } := by
  unfold expandFrom
  rw [if_neg (by decide), if_neg (by decide), if_pos rfl]

theorem expandFrom_of_newLine :
    expandFrom book limit (60 :: 0 :: rest) setB emphasis made =
      expandChar book limit rest setB emphasis made newLine := by
  rw [expandFrom, if_pos rfl]
  simp only [if_true]
  rw [addPositions_singleton, expandChar]
  by_cases h : made.length < limit
  · rw [if_pos h, if_pos h]
  · rw [if_neg h, if_neg h]

/-- A control other than the new line selects the set or the emphasis of what follows (R155). -/
theorem expandFrom_of_control {c : Nat} (h : c ≠ 0) :
    expandFrom book limit (60 :: c :: rest) setB emphasis made =
      expandFrom book limit rest (if c = 1 then false else if c = 2 then true else setB)
        (if c = 3 then true else if c = 4 then false else emphasis) made := by
  rw [expandFrom, if_pos rfl]
  simp only [if_neg h]
  by_cases h1 : c = 1
  · subst h1
    rfl
  by_cases h2 : c = 2
  · subst h2
    rfl
  by_cases h3 : c = 3
  · subst h3
    rfl
  by_cases h4 : c = 4
  · subst h4
    rfl
  simp only [if_neg h1, if_neg h2, if_neg h3, if_neg h4]

theorem expandFrom_of_phrase (hi lo : Nat) (hmade : made.length ≤ limit) :
    expandFrom book limit (61 :: hi :: lo :: rest) setB emphasis made =
      if made.length + (phrasePositions book (hi * 64 + lo)).length ≤ limit then
        expandFrom book limit rest setB emphasis
          (made ++ positionsOf emphasis (phrasePositions book (hi * 64 + lo)))
      else
        { positions :=
            made ++ (positionsOf emphasis (phrasePositions book (hi * 64 + lo))).take (limit - made.length)
          truncated := true } := by
  rw [expandFrom, if_neg (by decide), if_pos rfl]
  by_cases h : made.length + (phrasePositions book (hi * 64 + lo)).length ≤ limit
  · rw [if_pos h]
    simp only [addPositions_of_fits h]
  · rw [if_neg h]
    simp only [addPositions_of_over hmade h]

end

/-- Nothing after an END is read (R155). -/
theorem expandFrom_append_end (book : Option Memory) (limit : Nat) {front : List Nat} (back : List Nat)
    (setB emphasis : Bool) (made : List DisplayPos) (h : ∀ c ∈ front, c < 60) :
    expandFrom book limit (front ++ 63 :: back) setB emphasis made =
      expandFrom book limit front setB emphasis made := by
  induction front generalizing made with
  | nil => exact expandFrom_of_end book limit back setB emphasis made
  | cons c rest ih =>
    obtain ⟨hc, hrest⟩ := List.forall_mem_cons.mp h
    rw [List.cons_append, expandFrom_of_char _ _ _ _ _ _ (by omega) (by omega) (by omega),
      expandFrom_of_char _ _ _ _ _ _ (by omega) (by omega) (by omega), expandChar, expandChar, ih _ hrest]

/-- A text of character codes gives their characters, up to the limit (R154, R157). -/
theorem expandFrom_of_chars (book : Option Memory) (limit : Nat) {codes : List Nat} (setB emphasis : Bool)
    (made : List DisplayPos) (h : ∀ c ∈ codes, c < 60) :
    expandFrom book limit codes setB emphasis made =
      { positions := made ++ positionsOf emphasis ((codes.take (limit - made.length)).map (charOf setB))
        truncated := decide (limit - made.length < codes.length) } := by
  induction codes generalizing made with
  | nil => simp [expandFrom, positionsOf]
  | cons c rest ih =>
    obtain ⟨hc, hrest⟩ := List.forall_mem_cons.mp h
    rw [expandFrom_of_char _ _ _ _ _ _ (by omega) (by omega) (by omega), expandChar, if_neg (by omega : ¬ c = 62)]
    by_cases hroom : made.length < limit
    · obtain ⟨room, hr⟩ : ∃ room, limit - made.length = room + 1 := ⟨limit - made.length - 1, by omega⟩
      rw [if_pos hroom, ih _ hrest, hr, List.length_append, List.length_singleton, List.append_assoc,
        show limit - (made.length + 1) = room by omega]
      simp [positionsOf]
    · rw [if_neg hroom, Nat.sub_eq_zero_of_le (Nat.le_of_not_lt hroom)]
      simp [positionsOf]

/-- A truncated text fills its limit (R157). -/
def Text.fills (limit : Nat) (x : Text) : Prop := x.truncated = true → x.positions.length = limit

section

variable {book : Option Memory} {limit : Nat} {setB emphasis : Bool}

theorem expandChar_fills {rest : List Nat} {made : List DisplayPos} (char : BitVec 7) (hmade : made.length ≤ limit)
    (ih : ∀ made : List DisplayPos, made.length ≤ limit → (expandFrom book limit rest setB emphasis made).fills limit) :
    (expandChar book limit rest setB emphasis made char).fills limit := by
  unfold expandChar
  split
  next h => exact ih _ (by rw [List.length_append, List.length_singleton]; omega)
  next h => exact fun _ => by simp only; omega

theorem expandFrom_fills (codes : List Nat) (made : List DisplayPos) (hmade : made.length ≤ limit) :
    (expandFrom book limit codes setB emphasis made).fills limit := by
  induction hn : codes.length using Nat.strong_induction_on generalizing codes setB emphasis made with
  | _ n ih =>
  have hshort : ∀ rest : List Nat, rest.length < n → ∀ setB emphasis (made : List DisplayPos), made.length ≤ limit →
      (expandFrom book limit rest setB emphasis made).fills limit := fun rest hr _ _ made hm => ih _ hr rest made hm rfl
  cases codes with
  | nil => exact fun h => by cases h
  | cons c rest =>
  rw [List.length_cons] at hn
  by_cases h60 : c = 60
  · subst h60
    cases rest with
    | nil => exact fun h => by cases h
    | cons control rest' =>
      rw [List.length_cons] at hn
      by_cases hc : control = 0
      · rw [hc, expandFrom_of_newLine]
        exact expandChar_fills _ hmade (hshort rest' (by omega) _ _)
      · rw [expandFrom_of_control _ _ _ _ _ _ hc]
        exact hshort rest' (by omega) _ _ _ hmade
  by_cases h61 : c = 61
  · subst h61
    match rest, hn with
    | [], _ => exact fun h => by cases h
    | [_], _ => exact fun h => by cases h
    | hi :: lo :: rest', hn =>
      simp only [List.length_cons] at hn
      rw [expandFrom_of_phrase _ _ _ _ _ _ _ _ hmade]
      split
      next h =>
        refine hshort rest' (by omega) _ _ _ ?_
        rw [List.length_append, positionsOf, List.length_map]
        exact h
      next h =>
        intro _
        simp only [List.length_append, List.length_take, positionsOf, List.length_map]
        omega
  by_cases h63 : c = 63
  · rw [h63, expandFrom_of_end]
    exact fun h => by cases h
  · rw [expandFrom_of_char _ _ _ _ _ _ h60 h61 h63]
    exact expandChar_fills _ hmade (hshort rest (by omega) _ _)

end

end Sys2Proof.Machine

section
open Sys2Proof Sys2Proof.Machine

/-- Settles O38: by the first code, and by induction over the codes. -/
theorem textExpansion : Obligations.TextExpansion := by
  refine ⟨fun s taken limit codes => ⟨expandFrom_length_le (Nat.zero_le _), expandFrom_fills _ _ (Nat.zero_le _)⟩,
    fun s taken limit codes hc hl => ?_,
    fun book limit front back setB emphasis made h => expandFrom_append_end book limit back setB emphasis made h,
    fun book limit c rest setB emphasis made h => expandFrom_of_control book limit rest setB emphasis made h,
    fun book limit c rest setB emphasis made => ⟨?_, ?_, fun h => ?_, rfl, rfl, rfl⟩,
    fun book limit hi lo rest setB emphasis made hmade => ?_⟩
  · rw [State.expand, List.take_of_length_le hl, expandFrom_of_chars _ _ _ _ _ hc, positionsOf, List.map_map]
    rfl
  · exact expandFrom_of_newLine book limit rest setB emphasis made
  · exact expandFrom_of_char book limit rest setB emphasis made (by decide) (by decide) (by decide)
  · rw [expandFrom_of_char book limit rest setB emphasis made (by omega) (by omega) (by omega),
      if_neg (by omega : ¬ c = 62)]
    rfl
  · have hknown : phrasePositions book (hi * 64 + lo) =
        if (book.map (fun b => if 128 ≤ hi * 64 + lo then [] else phraseChars b (hi * 64 + lo))).getD [] = [] then
          [0x3F#7]
        else (book.map (fun b => if 128 ≤ hi * 64 + lo then [] else phraseChars b (hi * 64 + lo))).getD [] := by
      cases book with
      | none => rfl
      | some b =>
        rw [phrasePositions, Option.map_some, Option.getD_some]
        by_cases hn : 128 ≤ hi * 64 + lo
        · rw [if_pos hn, if_pos hn, if_pos rfl]
          rfl
        · rw [if_neg hn, if_neg hn]
          exact if_congr List.isEmpty_iff rfl rfl
    rw [expandFrom_of_phrase book limit rest setB emphasis made hi lo hmade, hknown]
    simp only [List.length_map, positionsOf]

end
end

section
/-!
PROOFS. The Message Store (sections 9.3 and 9.4).
-/

namespace Sys2Proof.Machine

/-! ## Eviction (R161) -/

/-- The rank of a message in the search of R161: the steps search the ranks in order. -/
def Message.rank (x : Message) : Nat := if x.state ≠ .unread then 0 else if x.cls ≠ .urgent then 1 else 2

theorem Message.settled_iff {x : Message} : x.settled = true ↔ x.rank = 0 := by
  rw [Message.settled, Message.rank, bne_iff_ne]
  split_ifs with h h' <;> simp [h]

theorem Message.plainUnread_iff {x : Message} : x.plainUnread = true ↔ x.rank = 1 := by
  rw [Message.plainUnread, Message.rank, Bool.and_eq_true, beq_iff_eq, bne_iff_ne]
  split_ifs with h h'
  · simp [h]
  · simp [not_not.mp h, h']
  · simp [h']

theorem Message.rank_le (x : Message) : x.rank ≤ 2 := by
  rw [Message.rank]
  split_ifs <;> omega

/-- The search finds the first message of the least rank. -/
theorem Messages.victim_of_split {m : Messages} {front back : List Message} {y : Message}
    (hs : m.store = front ++ y :: back) (hf : ∀ z ∈ front, y.rank < z.rank) (hb : ∀ z ∈ back, y.rank ≤ z.rank) :
    m.victim = some y := by
  have hall : ∀ z ∈ front ++ y :: back, y.rank ≤ z.rank := by
    intro z hz
    rcases List.mem_append.mp hz with hz | hz
    · exact Nat.le_of_lt (hf z hz)
    · exact (List.mem_cons.mp hz).elim (fun h => h ▸ Nat.le_refl _) (hb z)
  have hfront : ∀ {test : Message → Bool}, (∀ {x : Message}, test x = true ↔ x.rank = y.rank) →
      (front ++ y :: back).find? test = some y := by
    intro test ht
    have hnone : front.find? test = none :=
      List.find?_eq_none.mpr fun z hz h => (Nat.ne_of_lt (hf z hz)) (ht.mp h).symm
    rw [List.find?_append, hnone, Option.none_or, List.find?_cons_of_pos (ht.mpr rfl)]
  have hlater : ∀ {test : Message → Bool} {n : Nat}, (∀ {x : Message}, test x = true ↔ x.rank = n) → n < y.rank →
      (front ++ y :: back).find? test = none := by
    intro test n ht hn
    refine List.find?_eq_none.mpr fun z hz h => ?_
    have := hall z hz
    have := ht.mp h
    omega
  rw [Messages.victim, hs]
  by_cases h0 : y.rank = 0
  · rw [hfront (test := Message.settled) (by intro x; rw [h0]; exact Message.settled_iff)]
  rw [hlater (test := Message.settled) Message.settled_iff (by omega)]
  by_cases h1 : y.rank = 1
  · simp only
    rw [hfront (test := Message.plainUnread) (by intro x; rw [h1]; exact Message.plainUnread_iff)]
  · have hnil : front = [] := List.eq_nil_iff_forall_not_mem.mpr fun z hz => by
      have := hf z hz
      have := z.rank_le
      omega
    simp only
    rw [hlater (test := Message.plainUnread) Message.plainUnread_iff (by omega), hnil]
    rfl

section

variable {s : State}

theorem State.makeRoom_of_room (h : s.msgs.store.length < Config.storeMax) : s.makeRoom = s := by
  rw [State.makeRoom, if_pos h]

theorem State.makeRoom_of_full (h : Config.storeMax ≤ s.msgs.store.length) {front back : List Message} {y : Message}
    (hs : s.msgs.store = front ++ y :: back) (hf : ∀ z ∈ front, y.rank < z.rank) (hb : ∀ z ∈ back, y.rank ≤ z.rank)
    (hother : ∀ z ∈ front ++ back, z.number ≠ y.number) :
    s.makeRoom =
      (s.setMsgs
        { s.msgs with
          store := front ++ back
          lost := if y.state = .unread then min 65535 (s.msgs.lost + 1) else s.msgs.lost }).messageNotice .evicted y := by
  have hlost : s.msgs.countLost y =
      { store := s.msgs.store, lost := if y.state = .unread then min 65535 (s.msgs.lost + 1) else s.msgs.lost } := by
    rw [Messages.countLost]
    by_cases hu : y.state = .unread
    · rw [if_pos hu, if_pos hu]
      rfl
    · rw [if_neg hu, if_neg hu]
  have hremove : ∀ lost, ({ store := s.msgs.store, lost := lost } : Messages).remove y.number =
      { store := front ++ back, lost := lost } := fun lost => Messages.remove_of_split hs hother
  rw [State.makeRoom, if_neg (Nat.not_lt_of_le h), State.evict, Messages.victim_of_split hs hf hb]
  simp only
  rw [hlost, State.dropMessage, State.setMsgs_msgs, hremove]
  rfl

/-! ## Taking a message (R158, R159) -/

theorem Messages.find_isSome_iff {m : Messages} {number : Nat} :
    (m.find number).isSome = true ↔ ∃ x ∈ m.store, x.number = number := by
  rw [Messages.find, List.find?_isSome]
  simp only [beq_iff_eq]

theorem State.takeMessage_of_refused {m : MessageBody} (h : m.cls = none ∨ m.inRange = false) :
    s.takeMessage m = s := by
  rw [State.takeMessage]
  cases hc : m.cls with
  | none => rfl
  | some cls =>
    have hr := h.resolve_left (by rw [hc]; exact Option.some_ne_none cls)
    simp only [hr]
    rfl

theorem State.takeMessage_of_inRange {m : MessageBody} {cls : MsgClass} (hc : m.cls = some cls)
    (hr : m.inRange = true) :
    s.takeMessage m =
      if ∃ x ∈ s.msgs.store, x.number = m.number then s else s.makeRoom.storeMessage (s.messageRecord m cls) := by
  rw [State.takeMessage, hc]
  simp only [hr]
  refine (if_neg (by decide)).trans ?_
  exact if_congr Messages.find_isSome_iff rfl rfl

/-- A JOBNOTE is linked when its job is held (R159, step 2). -/
def State.links (s : State) (cls : MsgClass) (job : Option Nat) : Bool :=
  decide (cls = .jobnote) && (job.map s.jobs.holds).getD false

theorem State.classAndLink_eq (s : State) (cls : MsgClass) (job : Option Nat) :
    s.classAndLink cls job =
      (if cls = .jobnote ∧ s.links cls job = false then .normal else cls, if s.links cls job then job else none) := by
  cases cls with
  | normal => rfl
  | urgent => rfl
  | jobnote =>
    cases job with
    | none => rfl
    | some number =>
      have hlinks : s.links .jobnote (some number) = s.jobs.holds number := rfl
      rw [hlinks]
      unfold State.classAndLink
      by_cases hh : s.jobs.holds number = true
      · simp only [hh]
        rfl
      · simp only [Bool.eq_false_of_not_eq_true hh]
        rfl

end

/-! ## Lifetimes (R162) -/

theorem Message.expired_eq (x : Message) : x.expired = (x.life.map (fun l => l.minutes == 0)).getD false := by
  rw [Message.expired]
  cases x.life <;> rfl

/-- Messages dropped one after another leave the store without their numbers; only notices are raised. -/
theorem State.foldl_dropMessage (cause : MsgCause) (l : List Message) (s : State) :
    ∃ c, l.foldl (State.dropMessage · cause ·) s =
        (s.setMsgs
          { s.msgs with store := s.msgs.store.filter (fun x => l.all (fun e => x.number != e.number)) }).setCab c
      ∧ (l = [] → c = s.cab) := by
  induction l generalizing s with
  | nil =>
    refine ⟨s.cab, ?_, fun _ => rfl⟩
    have hall : s.msgs.store.filter (fun x => [].all (fun e : Message => x.number != e.number)) = s.msgs.store :=
      List.filter_true _
    rw [hall]
    rfl
  | cons e rest ih =>
    obtain ⟨c, h, -⟩ := ih (s.dropMessage cause e)
    obtain ⟨c', -, h'⟩ := (s.setMsgs (s.msgs.remove e.number)).raise_eq .message cause.code
      (be 2 e.number ++ be 1 e.cls.code ++ be 1 cause.code ++ be 1 (s.msgs.remove e.number).unread)
    have hdrop : s.dropMessage cause e = (s.setMsgs (s.msgs.remove e.number)).setCab c' := h'
    refine ⟨c, ?_, fun h => absurd h (List.cons_ne_nil e rest)⟩
    rw [List.foldl_cons, h, hdrop, State.setCab_msgs, State.setMsgs_msgs, Messages.remove, List.filter_filter]
    simp only [List.all_cons, Bool.and_comm]
    rfl

section

variable {s : State} {number : Nat}

theorem State.expireMessage_of_none (h : s.msgs.find number = none) : s.expireMessage number = s := by
  rw [State.expireMessage, h]

theorem State.expireMessage_of_some {x : Message} (h : s.msgs.find number = some x) :
    s.expireMessage number =
      if x.ending then
        (s.setMsgs { s.msgs with store := s.msgs.store.filter (fun y => y.number != number) }).messageNotice .expired x
      else s := by
  have hn : x.number = number := by simpa using List.find?_some h
  rw [State.expireMessage, h]
  simp only [State.dropMessage, Messages.remove, hn]

theorem Message.ending_of_none {x : Message} (h : x.life = none) : x.ending = false := by
  rw [Message.ending, Message.expired_eq, Message.expired_eq, Message.count, h]
  rfl

/-- A lifetime is out, or goes out at its next second (log entry 8). -/
theorem Message.ending_iff {x : Message} {l : Lifetime} (h : x.life = some l) :
    x.ending = true ↔ l.minutes = 0 ∨ (l.minutes = 1 ∧ 59 ≤ l.seconds) := by
  rw [Message.ending, Message.expired_eq, Message.expired_eq, Message.count, h, Bool.or_eq_true]
  simp only [Option.map_some, Option.getD_some, beq_iff_eq]
  rw [Lifetime.count]
  split <;> simp only <;> omega

end

end Sys2Proof.Machine

section
open Sys2Proof Sys2Proof.Machine

/-- Settles O35: by the tests of R158 and R159, and by the rank of the message evicted. -/
theorem messageTaken : Obligations.MessageTaken := by
  intro s t rx g hv hg hk s1 ended m held
  have hexec := exec_of_hears (i := .message t rx) hv hg rfl hk
  rw [State.handOver, hk] at hexec
  have htake : ∀ {q}, s1.takeMessage m = q → exec (.message t rx) s = .next (ended q) := fun h =>
    hexec.trans (congrArg (fun q => Host.Outcome.next (ended q)) h)
  refine ⟨fun h => htake (State.takeMessage_of_refused h), fun cls hc hr => ?_⟩
  intro linked x join rank
  have htaken := State.takeMessage_of_inRange (s := s1) hc hr
  have hrecord : s1.messageRecord m cls = x := by
    rw [State.messageRecord, State.classAndLink_eq]
    rfl
  refine ⟨fun hh => htake (htaken.trans (if_pos hh)), fun hh hroom => ?_, fun front y back hh hfull hs hf hb ho => ?_⟩
  · refine htake (htaken.trans ((if_neg hh).trans ?_))
    rw [State.makeRoom_of_room hroom, hrecord]
    rfl
  · refine htake (htaken.trans ((if_neg hh).trans ?_))
    rw [State.makeRoom_of_full hfull hs hf hb ho, hrecord]
    rfl

/-- Settles O36: the messages that ran out are those that leave, by their distinct numbers. -/
theorem messageLifetimes : Obligations.MessageLifetimes := by
  constructor
  · intro s counted out
    have hout : Message.expired = out := funext Message.expired_eq
    have hstore : s.msgs.store.map Message.count = counted := rfl
    have htick : s.tickMessages =
        (counted.filter out).foldl (State.dropMessage · .expired ·) (s.setMsgs { s.msgs with store := counted }) := by
      rw [State.tickMessages, hstore, hout]
      rfl
    refine ⟨htick, fun hd => ?_⟩
    have hd' : (counted.map (fun x => x.number)).Nodup := by
      rw [List.map_map]
      exact hd
    obtain ⟨c, h, hc⟩ := State.foldl_dropMessage .expired (counted.filter out) (s.setMsgs { s.msgs with store := counted })
    refine ⟨c, ?_, fun hnone => hc (List.filter_eq_nil_iff.mpr fun x hx => by rw [hnone x hx]; decide)⟩
    rw [htick, h, State.setMsgs_msgs,
      List.filter_congr fun x hx => all_number_ne_filter (number := fun x : Message => x.number) hd' out hx]
    rfl
  · intro s t n hv s0
    have hmsgs : s0.msgs = s.msgs := s.advanceTo_msgs t
    have hexec : exec (.messageExpiry t n) s = .next (s0.expireMessage n.toNat) :=
      exec_of_event (f := fun s => s.expireMessage n.toNat) hv rfl
    refine ⟨fun hf => ?_, fun x hf => ⟨fun hl => ?_, fun l hl => ⟨fun h => ?_, fun h => ?_⟩⟩⟩
    · rw [hexec, State.expireMessage_of_none (by rw [hmsgs]; exact hf)]
    all_goals rw [hexec, State.expireMessage_of_some (x := x) (by rw [hmsgs]; exact hf)]
    · rw [Message.ending_of_none hl]
      rfl
    · rw [if_pos ((Message.ending_iff hl).mpr h), hmsgs]
    · rw [if_neg fun he => ?_]
      have := (Message.ending_iff hl).mp he
      omega

end
end

section
/-!
PROOFS. Recalls and totals queries (sections 8.5 and 8.6).
-/

namespace Sys2Proof.Machine

section

variable {s : State} {n : Nat}

theorem Trips.find_of_held {t : Trips} {h : HeldTrip} (hl : t.log[n % 16]? = some (some h))
    (hn : h.record.sequence = n) : t.find n = some h := by
  rw [Trips.find, show t.log[slotOf n]? = some (some h) from hl]
  exact if_pos hn

theorem Trips.find_of_other {t : Trips} (h : ∀ x, t.log[n % 16]? = some (some x) → x.record.sequence ≠ n) :
    t.find n = none := by
  unfold Trips.find
  split
  next x hx => exact if_neg (h x hx)
  next => rfl

theorem State.takeRecall_of_held (hn : n ≠ 0) {h : HeldTrip} (hf : s.trips.find n = some h) :
    s.takeRecall n =
      (s.setTrips
        { s.trips with log := s.trips.log.set (n % 16) (some { h with reported := false }) }).tripReady s.trips := by
  rw [State.takeRecall, if_neg hn, Trips.markReported, hf]
  rfl

theorem State.takeRecall_of_missing (hn : n ≠ 0) (hf : s.trips.find n = none) :
    s.takeRecall n = s.queue .statusReply (recallMissBody n) := by
  rw [State.takeRecall, if_neg hn, hf]

theorem State.takeTotalsQuery_of_none (hn : ¬ 1 < n) (h : s.trips.selected n = none) :
    s.takeTotalsQuery n = s.queue .statusReply (noShiftBody n) := by
  rw [State.takeTotalsQuery, if_neg hn, h]

theorem State.takeTotalsQuery_of_some (hn : ¬ 1 < n) {r : ShiftRecord} (h : s.trips.selected n = some r) :
    s.takeTotalsQuery n = s.queue .totalsReport (totalsReportBody n r s.trips.odometer) := by
  rw [State.takeTotalsQuery, if_neg hn, h]

end

end Sys2Proof.Machine

section
open Sys2Proof Sys2Proof.Machine

/-- Settles O34: by the slot that the number names, and by the record of the selector. -/
theorem recallAndTotals : Obligations.RecallAndTotals := by
  intro s t rx g hv hg s1 ended
  constructor
  · intro hk n
    have hexec := exec_of_hears (i := .tripRecall t rx) hv hg rfl hk
    rw [State.handOver, hk] at hexec
    have hrecall : ∀ {q}, s1.takeRecall n = q → exec (.tripRecall t rx) s = .next (ended q) := fun h =>
      hexec.trans (congrArg (fun q => Host.Outcome.next (ended q)) h)
    refine ⟨fun hn => hrecall (by rw [State.takeRecall, if_pos hn]), fun h hn hl hs => ?_, fun hn hl => ?_⟩
    · exact hrecall (State.takeRecall_of_held hn (Trips.find_of_held hl hs))
    · exact hrecall (State.takeRecall_of_missing hn (Trips.find_of_other hl))
  · intro hk n record
    have hexec := exec_of_hears (i := .totalsQuery t rx) hv hg rfl hk
    rw [State.handOver, hk] at hexec
    have hquery : ∀ {q}, s1.takeTotalsQuery n = q → exec (.totalsQuery t rx) s = .next (ended q) := fun h =>
      hexec.trans (congrArg (fun q => Host.Outcome.next (ended q)) h)
    refine ⟨fun hn => hquery (by rw [State.takeTotalsQuery, if_pos hn]), fun hn hr => ?_, fun r hn hr => ?_⟩
    · exact hquery (State.takeTotalsQuery_of_none (Nat.not_lt_of_le hn) hr)
    · exact hquery (State.takeTotalsQuery_of_some (Nat.not_lt_of_le hn) hr)

end
end

section
/-!
PROOFS. The Emergency Unit (chapter 10).
-/

namespace Sys2Proof.Machine

section

variable {s : State}

theorem State.timerReached_iff {deadline : Option Nat} :
    s.timerReached deadline = true ↔ ∃ d, deadline = some d ∧ d ≤ s.now := by
  cases deadline with
  | none => simp [State.timerReached]
  | some d => simpa [State.timerReached] using State.reached_iff

theorem State.graceReached_iff (h : s.emu.state = .arming) :
    s.graceReached = true ↔ ∃ d, s.emu.grace = some d ∧ d ≤ s.now := by
  rw [State.graceReached, h, Bool.and_eq_true, State.timerReached_iff]
  exact and_iff_right rfl

theorem Emergency.inCall_iff {e : Emergency} : e.inCall = true ↔ e.state = .active ∨ e.state = .acknowledged := by
  rw [Emergency.inCall, Bool.or_eq_true, beq_iff_eq, beq_iff_eq]

theorem Emergency.matches_iff {e : Emergency} {n : Nat} : e.matches n = true ↔ n = 0 ∨ n = e.episode := by
  rw [Emergency.matches, Bool.or_eq_true, beq_iff_eq, beq_iff_eq]

/-! ## Presses (R172 to R175) -/

theorem State.press_of_quiet (h : s.emu.state = .quiet) :
    s.press = if s.op.grace = 0 then s.enterOvert else s.arm := by
  rw [State.press, h]

theorem State.press_of_arming (h : s.emu.state = .arming) : s.press = s := by
  rw [State.press, h]

theorem State.press_of_inCall (h : s.emu.state = .active ∨ s.emu.state = .acknowledged) : s.press = s.countPress := by
  rcases h with h | h
  · rw [State.press, h]
  · rw [State.press, h]

theorem State.pressCovert_of_quiet (h : s.emu.state = .quiet) : s.pressCovert = s.enterCovert := by
  rw [State.pressCovert, h]

theorem State.pressCovert_of_arming (h : s.emu.state = .arming) :
    s.pressCovert = if s.graceReached then s.enterOvert else s.enterCovertArmed := by
  rw [State.pressCovert, h]

theorem State.pressCovert_of_inCall (h : s.emu.state = .active ∨ s.emu.state = .acknowledged) : s.pressCovert = s := by
  rcases h with h | h
  · rw [State.pressCovert, h]
  · rw [State.pressCovert, h]

theorem State.graceExpiry_of_not_arming (h : s.emu.state ≠ .arming) : s.graceExpiry = s := by
  refine if_neg fun hr => h ?_
  rw [State.graceReached, Bool.and_eq_true, beq_iff_eq] at hr
  exact hr.1

/-! ## CANCEL (R173, R176) -/

theorem State.cancel_of_quiet (h : s.emu.state = .quiet) : s.cancel = s.doneWith [] := by
  rw [State.cancel, h]

theorem State.cancel_of_arming (h : s.emu.state = .arming) :
    s.cancel = if s.graceReached then s.enterOvert.cancelInCall else s.cancelArming.doneWith [] := by
  rw [State.cancel, h]

theorem State.cancel_of_inCall (h : s.emu.state = .active ∨ s.emu.state = .acknowledged) :
    s.cancel = s.cancelInCall := by
  rcases h with h | h
  · rw [State.cancel, h]
  · rw [State.cancel, h]

theorem State.cancelInCall_of_covert (h : s.emu.covert = true) :
    s.cancelInCall = (s.setEmu { s.emu with cancels := min 65535 (s.emu.cancels + 1) }).doneWith [] :=
  if_pos h

theorem State.cancelInCall_of_overt (h : s.emu.covert = false) :
    s.cancelInCall = (s.setEmu { s.emu with cancels := min 65535 (s.emu.cancels + 1) }).refuse .emergency :=
  if_neg (by rw [State.setEmu_emu, h]; decide)

theorem State.enterOvert_emu (s : State) : s.enterOvert.emu = s.emu.enter false s.now := by
  rw [State.enterOvert, State.emergencyNotice_emu, State.emptyOffers, State.removeBids, State.removeEntries_emu,
    State.setOffers_emu, State.enterActive, State.choose_emu, State.setEmu_emu]

/-! ## Telegrams and the beacon (R177 to R179) -/

theorem State.beaconIsCand_iff :
    s.beaconIsCand = true ↔
      (∃ d, s.uls.sched = .clearing .beacon d) ∨ ∃ d, s.uls.sched = .backoff .beacon d := by
  unfold State.beaconIsCand
  split
  next cand d h => simp [h]
  next cand d h => simp [h]
  next h1 h2 =>
    simp only [Bool.false_eq_true, false_iff, not_or, not_exists]
    exact ⟨fun d => h1 _ d, fun d => h2 _ d⟩

theorem State.dropBeacon_emu (s : State) : s.dropBeacon.emu = s.emu := by
  rw [State.dropBeacon]
  split
  · rw [State.choose_emu, State.endAccess_emu]
  · rfl

theorem State.takeAck_of_match {n : Nat} (hn : n = 0 ∨ n = s.emu.episode) (h : s.emu.state = .active) :
    s.takeAck n =
      if s.emu.covert then s.setEmu { s.emu with state := .acknowledged }
      else
        (s.setEmu { s.emu with state := .acknowledged }).emergencyNotice .acknowledged .acknowledged s.emu.episode
          s.emu.beacons := by
  unfold State.takeAck
  exact if_pos ⟨Emergency.matches_iff.mpr hn, h⟩

theorem State.takeAck_of_not {n : Nat} (h : ¬ ((n = 0 ∨ n = s.emu.episode) ∧ s.emu.state = .active)) :
    s.takeAck n = s :=
  if_neg fun hm => h (hm.imp_left Emergency.matches_iff.mp)

theorem State.takeStandDown_of_not {n : Nat}
    (h : ¬ (n = 0 ∨ n = s.emu.episode) ∨ s.emu.state = .quiet ∨ s.emu.state = .arming) : s.takeStandDown n = s := by
  refine if_neg fun hm => ?_
  rw [Bool.and_eq_true, Emergency.matches_iff, Emergency.inCall_iff] at hm
  obtain ⟨hn, hc⟩ := hm
  rcases h with h | h | h
  · exact h hn
  · rw [h] at hc
    simp at hc
  · rw [h] at hc
    simp at hc

theorem State.takeStandDown_of_match {n : Nat} (hn : n = 0 ∨ n = s.emu.episode) (hc : s.emu.inCall = true) :
    s.takeStandDown n = s.standDown := by
  rw [State.takeStandDown, if_pos]
  rw [hc, Emergency.matches_iff.mpr hn]
  rfl

/-- The end of a call, once the beacon is dropped (R178). -/
theorem State.standDown_eq {q : State} (h : (s.setEmu { s.emu with state := .quiet, beacon := none }).dropBeacon = q) :
    s.standDown =
      (if s.emu.covert then q else q.emergencyNotice .stoodDown q.emu.state q.emu.episode q.emu.beacons).setEmu
        { s.emu with state := .quiet, beacon := none, covert := false } := by
  have hemu : q.emu = { s.emu with state := .quiet, beacon := none } := by
    rw [← h, State.dropBeacon_emu, State.setEmu_emu]
  unfold State.standDown
  simp only [h]
  by_cases hc : s.emu.covert = true
  · rw [if_pos hc, hemu]
  · rw [if_neg hc, State.emergencyNotice_emu, hemu]

end

end Sys2Proof.Machine

section
open Sys2Proof Sys2Proof.Machine

/-- Settles O39: by the emergency state, and by the grace deadline. -/
theorem emergencyInputs : Obligations.EmergencyInputs := by
  intro s t hv s0 e noted enter overt covert reached arming pressed counted inCall
  have hemu : s0.emu = e := s.advanceTo_emu t
  have hop : s0.op = s.op := s.op_advanceTo t
  have hovert : ∀ q : State, q.emu = e → q.enterOvert = overt q := fun q hq => by
    unfold State.enterOvert State.enterActive Emergency.enter
    rw [hq]
    rfl
  have hcovert : s0.enterCovert = covert := by
    unfold State.enterCovert State.enterActive Emergency.enter
    rw [hemu]
    rfl
  have hpress : ∀ q : State, q.emu = e → q.op = s.op → q.now = s0.now → q.press = pressed q := by
    intro q hq hqop hnow
    have hstate : q.emu.state = e.state := by rw [hq]
    have hcases : e.state = .quiet ∨ e.state = .arming ∨ inCall := by
      simp only [inCall]
      cases e.state <;> simp
    rcases hcases with h | h | h
    · have harm : q.arm = noted (q.setEmu arming) .arming := by rw [State.arm, hq, hqop, hnow]
      rw [State.press_of_quiet (hstate.trans h), hovert q hq, harm]
      exact (if_pos h).symm
    · rw [State.press_of_arming (hstate.trans h)]
      exact ((if_neg (by rw [h]; decide)).trans (if_pos h)).symm
    · rw [State.press_of_inCall (by rw [hstate]; exact h), State.countPress, hq]
      refine ((if_neg ?_).trans (if_neg ?_)).symm
      · rcases h with h | h <;> rw [h] <;> decide
      · rcases h with h | h <;> rw [h] <;> decide
  have hreached : e.state = .arming → (s0.graceReached = true ↔ reached) := fun h => by
    rw [State.graceReached_iff (by rw [hemu]; exact h), hemu]
  have hcovertPress : exec (.covertPress t) s = .next s0.pressCovert := exec_of_event hv rfl
  have hexpiry : exec (.graceExpiry t) s = .next s0.graceExpiry := exec_of_event hv rfl
  refine ⟨?_, fun h => ?_, fun h => ?_, fun h hr => ⟨?_, ?_⟩, fun h hr => ⟨?_, ?_⟩, fun h => ?_, fun h => ?_,
    fun h => ⟨fun hq => ?_, fun ha hr => ?_, fun ha hr => ?_, fun hc => ?_⟩⟩
  · rw [← hpress s0 hemu hop rfl]
    exact exec_of_event hv rfl
  · rw [← hpress s0.toHunt hemu hop rfl]
    exact exec_of_request (act := State.emergencyRequest) h rfl rfl
  · rw [hcovertPress, State.pressCovert_of_quiet (by rw [hemu]; exact h), hcovert]
  · rw [hcovertPress, State.pressCovert_of_arming (by rw [hemu]; exact h), if_pos ((hreached h).mpr hr), hovert s0 hemu]
  · rw [hexpiry, State.graceExpiry, if_pos ((hreached h).mpr hr), hovert s0 hemu]
  · rw [hcovertPress, State.pressCovert_of_arming (by rw [hemu]; exact h), if_neg (mt (hreached h).mp hr),
      State.enterCovertArmed, hcovert, hemu]
  · rw [hexpiry, State.graceExpiry, if_neg (mt (hreached h).mp hr)]
  · rw [hcovertPress, State.pressCovert_of_inCall (by rw [hemu]; exact h)]
  · rw [hexpiry, State.graceExpiry_of_not_arming (by rw [hemu]; exact h)]
  · exact exec_of_request h rfl (State.cancel_of_quiet (by rw [State.toHunt_emu, hemu]; exact hq))
  · have hcancel := (State.cancel_of_arming (s := s0.toHunt) (by rw [State.toHunt_emu, hemu]; exact ha)).trans
      (if_neg (mt (hreached ha).mp hr))
    rw [State.cancelArming, State.toHunt_emu, hemu] at hcancel
    exact exec_of_request (act := State.cancel) h rfl hcancel
  · have hcancel := (State.cancel_of_arming (s := s0.toHunt) (by rw [State.toHunt_emu, hemu]; exact ha)).trans
      (if_pos ((hreached ha).mpr hr))
    rw [State.cancelInCall_of_overt (by rw [State.enterOvert_emu]; rfl), hovert s0.toHunt hemu] at hcancel
    exact exec_of_request (act := State.cancel) h rfl hcancel
  · have hcancel := State.cancel_of_inCall (s := s0.toHunt) (by rw [State.toHunt_emu, hemu]; exact hc)
    by_cases hco : e.covert = true
    · rw [State.cancelInCall_of_covert (by rw [State.toHunt_emu, hemu]; exact hco), State.toHunt_emu, hemu] at hcancel
      rw [if_pos hco]
      exact exec_of_request (act := State.cancel) h rfl hcancel
    · rw [State.cancelInCall_of_overt (by rw [State.toHunt_emu, hemu]; exact Bool.eq_false_of_not_eq_true hco),
        State.toHunt_emu, hemu] at hcancel
      rw [if_neg hco]
      exact exec_of_request (act := State.cancel) h rfl hcancel

/-- Settles O40: by the match of the episode number and the emergency state. -/
theorem emergencyTelegramsBeacon : Obligations.EmergencyTelegramsBeacon := by
  intro s t hv
  have hemu : (s.advanceTo t).emu = s.emu := s.advanceTo_emu t
  have hdue : exec (.beaconDue t) s = .next (s.advanceTo t).beaconDue := exec_of_event hv rfl
  refine ⟨fun d hd => ?_, fun hd => ?_, fun rx g hg => ?_⟩
  · rw [hdue, State.beaconDue, hemu, hd]
    exact congrArg Host.Outcome.next (if_congr State.reached_iff rfl rfl)
  · rw [hdue, State.beaconDue, hemu, hd]
    exact congrArg Host.Outcome.next (if_neg Bool.false_ne_true)
  intro s1 ended e n matching noted
  have hack : g.kind = .emergencyAck → ∀ {q}, s1.takeAck n = q → exec (.emergencyAck t rx) s = .next (ended q) := by
    intro hk q h
    have hexec := exec_of_hears (i := .emergencyAck t rx) hv hg rfl hk
    rw [State.handOver, hk] at hexec
    exact hexec.trans (congrArg (fun q => Host.Outcome.next (ended q)) h)
  have hstand : g.kind = .standDown → ∀ {q}, s1.takeStandDown n = q →
      exec (.standDown t rx) s = .next (ended q) := by
    intro hk q h
    have hexec := exec_of_hears (i := .standDown t rx) hv hg rfl hk
    rw [State.handOver, hk] at hexec
    exact hexec.trans (congrArg (fun q => Host.Outcome.next (ended q)) h)
  refine ⟨fun hk h => hack hk (State.takeAck_of_not h), fun hk hn ha => hack hk (State.takeAck_of_match hn ha),
    fun hk h => hstand hk (State.takeStandDown_of_not h), fun hk hn hc => ?_⟩
  intro quiet accessed
  have hcand : quiet.beaconIsCand = true ↔ accessed := State.beaconIsCand_iff
  refine ⟨quiet.dropBeacon, fun h => if_pos (hcand.mpr h), fun h => if_neg (mt hcand.mp h), hstand hk ?_⟩
  rw [State.takeStandDown_of_match hn (Emergency.inCall_iff.mpr hc), State.standDown_eq rfl]

end
end

section
/-!
PROOFS. Clock, bar, restart and status queries (chapter 11).
-/

namespace Sys2Proof.Machine

section

variable {s : State}

theorem State.found_dcu (s : State) (site : Nat) : (s.found site).dcu = s.dcu := by
  rw [State.found, s.closeRx.linkReport_eq site]
  rfl

/-- A telegram handed over at its closing has the effect of its owner (R14). -/
theorem exec_handOver {i : Instr} {s : State} {t : Stamp} {rx : List Byte} {g : Telegram} (hv : s.vdd = true)
    (hg : (s.advanceTo t).hears rx g) {kind : DownKind} (he : exec i s = .next (s.telegram t rx (Telegram.isKind kind)))
    (hk : g.kind = kind) {q : State} (hq : State.handOver g ((s.advanceTo t).found g.site) = q) :
    exec i s = .next ((s.advanceTo t).afterReport g.site q) :=
  (exec_of_hears hv hg he hk).trans (congrArg (fun q => Host.Outcome.next ((s.advanceTo t).afterReport g.site q)) hq)

/-! ## TIME SET and RESTART (R195, R197) -/

theorem WallClock.inRange_iff {c : WallClock} : c.inRange = true ↔ c.dayOfWeek ≤ 6 ∧ c.second ≤ 86399 := by
  rw [WallClock.inRange, Bool.and_eq_true, decide_eq_true_iff, decide_eq_true_iff]

/-- The candidate of an access is in the queue. -/
def State.losesCandidate (s : State) : Prop := s.uls.sched.inAccess = true ∧ ∃ e ∈ s.uls.queue, e.mark = .candidate

theorem State.clearQueue_of_empty (h : s.uls.queue = []) : s.clearQueue = s := by
  rw [State.clearQueue, State.removeEntries, h]
  rfl

theorem State.clearQueue_eq (h : s.uls.queue ≠ []) :
    s.clearQueue = (s.dropEntries fun _ => true).choose := by
  rw [State.clearQueue, State.removeEntries, if_pos]
  obtain ⟨e, he⟩ := List.exists_mem_of_ne_nil _ h
  exact List.any_eq_true.mpr ⟨e, he, rfl⟩

theorem State.dropAll_of_loses (h : s.losesCandidate) :
    (s.dropEntries fun _ => true) = s.setUls { s.uls with queue := [], sched := .idle } := by
  obtain ⟨ha, e, he, hm⟩ := h
  have hany : s.uls.queue.any (fun e => true && e.isCandidate) = true :=
    List.any_eq_true.mpr ⟨e, he, Entry.isCandidate_iff.mpr hm⟩
  have hnil : s.uls.queue.filter (fun _ => !true) = [] := List.filter_false _
  rw [State.dropEntries, if_pos hany, hnil,
    State.endAccess_of_no_candidate (s := s.setUls { s.uls with queue := [] }) (by simp) ha]
  rfl

theorem State.dropAll_of_not (h : ¬ s.losesCandidate) :
    (s.dropEntries fun _ => true) = s.setUls { s.uls with queue := [] } := by
  have hnil : s.uls.queue.filter (fun _ => !true) = [] := List.filter_false _
  rw [State.dropEntries, hnil]
  split
  next hany =>
    obtain ⟨e, he, hm⟩ := List.any_eq_true.mp hany
    have ha : s.uls.sched.inAccess = false :=
      Bool.eq_false_of_not_eq_true fun ha => h ⟨ha, e, he, Entry.isCandidate_iff.mp hm⟩
    exact State.endAccess_of_no_access (s := s.setUls { s.uls with queue := [] }) ha
  next => rfl

/-- A RESTART, once the queue is empty (R195). -/
theorem State.takeRestart_eq {q : State}
    (h : ((s.setDcu { s.dcu with staging := none }).setOffers { s.offers with table := [] }).clearQueue = q)
    (hm : q.msgs = s.msgs) : s.takeRestart = (q.setMsgs { s.msgs with store := [] }).raise .restart 0 [] := by
  have hq : ((s.setStaging none).setOffers { (s.setStaging none).offers with table := [] }).clearQueue = q := h
  unfold State.takeRestart
  simp only [hq, hm]
  rfl

/-! ## Status queries (R198) -/

theorem Telegram.isQuery_self {g : Telegram} (hk : g.kind = .statusQuery) : Telegram.isQuery g.code g = true := by
  rw [Telegram.isQuery, hk, Bool.and_eq_true]
  simp

theorem Telegram.isQuery_of_large {g : Telegram} (hk : g.kind = .statusQuery) (h : 3 < g.code) (code : Nat) :
    Telegram.isQuery code g = true := by
  rw [Telegram.isQuery, hk, Bool.and_eq_true]
  simp [h]

theorem State.takeStatusQuery_of_large {code : Nat} (h : 3 < code) (clear : Bool) : s.takeStatusQuery code clear = s := by
  obtain ⟨n, rfl⟩ : ∃ n, code = n + 4 := ⟨code - 4, by omega⟩
  rfl

theorem identityBody_eq (s : State) :
    identityBody s = [0, 0x72, 0x01] ++ be 2 s.address.fleet ++ be 2 s.address.cab := rfl

theorem countersBody_eq (s : State) :
    countersBody s =
      2 :: [s.air.counters.crcErrors, s.air.counters.lengthErrors, s.air.counters.foreignFleet,
        s.air.counters.uplinkHeard, s.air.counters.passedBy, s.air.counters.unknownKind,
        s.air.counters.barredDiscards, s.link.siteMismatches, s.link.huntPasses, s.uls.drops,
        s.uls.displaced, s.uls.bidsLost, s.offers.passed, s.offers.displaced, s.msgs.lost,
        s.dcu.loadDiscarded].flatMap (be 2) := rfl

theorem clearCounters_eq (s : State) :
    s.clearCounters =
      { s with
        air := { s.air with
          counters :=
            { crcErrors := 0, lengthErrors := 0, foreignFleet := 0, uplinkHeard := 0, passedBy := 0,
              unknownKind := 0, barredDiscards := 0 } }
        link := { s.link with siteMismatches := 0, huntPasses := 0 }
        uls := { s.uls with drops := 0, displaced := 0, bidsLost := 0 }
        offers := { s.offers with passed := 0, displaced := 0 }
        msgs := { s.msgs with lost := 0 }
        dcu := { s.dcu with loadDiscarded := 0 } } := rfl

theorem versionsBody_eq (s : State) :
    versionsBody s =
      [1] ++ optional 2 (s.dcu.address.map (fun v => v.version)) ++ optional 2 (s.dcu.zoneMap.map (fun v => v.version))
        ++ optional 2 (s.dcu.channels.map (fun v => v.version)) ++ optional 2 (s.dcu.phrases.map (fun v => v.version))
        ++ optional 2 (s.dcu.operating.map (fun v => v.version))
        ++ optional 2 (s.meter.calibration.map (fun v => v.version))
        ++ optional 2 (s.meter.active.map (fun v => v.version))
        ++ optional 2 (s.meter.pendingBank.map (fun v => v.version)) ++ [if s.meter.ready then 1 else 0] := rfl

theorem snapshotFlags_eq (state : EmergencyState) (covert barred : Bool) :
    snapshotFlags state covert barred = state.code + (if covert then 4 else 0) + (if barred then 8 else 0) := by
  cases covert <;> cases barred <;> rfl

theorem snapshotJobs_eq (active : Option Job) (queued : Nat) :
    snapshotJobs active queued =
      (active.map (fun j => if j.state = .assigned then 0 else if j.state = .arrived then 1 else 2)).getD 3 * 64
        + queued % 4 := by
  cases active with
  | none => rfl
  | some j =>
    simp only [snapshotJobs, Option.map_some, Option.getD_some]
    cases j.state <;> rfl

end

end Sys2Proof.Machine

section
open Sys2Proof Sys2Proof.Machine

/-- Settles O41: by the telegram, and for a RESTART by the candidate that it loses. -/
theorem clockBarRestart : Obligations.ClockBarRestart := by
  intro s t rx g hv hg s1 ended c
  have hbarred : s1.dcu.barred = s.dcu.barred := by
    rw [State.found_dcu, State.advanceTo_dcu]
  have hand : ∀ {i : Instr} {kind : DownKind}, exec i s = .next (s.telegram t rx (Telegram.isKind kind)) →
      g.kind = kind → ∀ {q}, State.handOver g s1 = q → exec i s = .next (ended q) := by
    intro i kind he hk q hq
    exact exec_handOver hv hg he hk hq
  refine ⟨fun hk hc => hand rfl hk ?_, fun hk hd hs => hand rfl hk ?_, fun hk hb => hand rfl hk ?_,
    fun hk hb => hand rfl hk ?_, fun hk hb => hand rfl hk ?_, fun hk => ?_⟩
  · rw [State.handOver, hk]
    refine if_neg fun hr => ?_
    obtain ⟨hd, hs⟩ := WallClock.inRange_iff.mp hr
    exact hc.elim (Nat.not_lt_of_le hd) (Nat.not_lt_of_le hs)
  · rw [State.handOver, hk]
    exact if_pos (WallClock.inRange_iff.mpr ⟨hd, hs⟩)
  · rw [State.handOver, hk]
    exact if_neg (by rw [hbarred, hb]; decide)
  · rw [State.handOver, hk]
    exact if_pos (by rw [hbarred, hb])
  · rw [State.handOver, hk]
    exact if_neg (by rw [hbarred, hb]; decide)
  · intro q loses finished
    have hrestart : ∀ {q'}, q.clearQueue = q' → q'.msgs = s1.msgs →
        exec (.restart t rx) s = .next (ended (finished q')) := fun {q'} hq hm => by
      refine hand (i := .restart t rx) rfl hk ?_
      rw [State.handOver, hk]
      exact State.takeRestart_eq hq hm
    refine ⟨fun hq => hrestart (State.clearQueue_of_empty hq) rfl, fun hq hl => hrestart ?_ ?_,
      fun hq hl => hrestart ?_ ?_⟩
    · rw [State.clearQueue_eq (s := q) hq, State.dropAll_of_loses (s := q) hl]
      rfl
    · rw [State.choose_msgs]
      rfl
    · rw [State.clearQueue_eq (s := q) hq, State.dropAll_of_not (s := q) hl]
      rfl
    · rw [State.choose_msgs]
      rfl

/-- Settles O42: by the code, and by the flag of COUNTERS. -/
theorem statusQueriesAnswered : Obligations.StatusQueriesAnswered := by
  intro s t rx g hv hg hk s1 ended code version active jobState counters cleared
  have hand : ∀ {i : Instr} {n : Nat}, exec i s = .next (s.telegram t rx (Telegram.isQuery n)) →
      Telegram.isQuery n g = true → ∀ {q}, s1.takeStatusQuery g.code (natAt g.body 1 1 != 0) = q →
      exec i s = .next (ended q) := by
    intro i n he hn q hq
    rw [he, State.telegram_of_hears hv hg hn, State.handOver, hk]
    exact congrArg (fun q => Host.Outcome.next (ended q)) hq
  have hself : ∀ {n}, code = n → Telegram.isQuery n g = true := fun h => h ▸ Telegram.isQuery_self hk
  have hversion : ∀ v, version v = optional 2 v := fun v => by
    cases v <;> rfl
  refine ⟨fun h => hand rfl (hself h) ?_, fun h => hand rfl (hself h) ?_, fun h => hand rfl (hself h) ?_,
    fun h => hand rfl (hself h) ?_, fun h => ?_⟩
  · rw [show g.code = 0 from h]
    exact congrArg (s1.queue .statusReply) (identityBody_eq s1)
  · rw [show g.code = 1 from h]
    simp only [hversion]
    exact congrArg (s1.queue .statusReply) (versionsBody_eq s1)
  · have hcleared : s1.clearCounters = cleared := clearCounters_eq s1
    rw [show g.code = 2 from h, ← countersBody_eq s1, ← hcleared]
    refine congrArg (fun q : State => q.queue .statusReply (countersBody s1)) ?_
    by_cases h0 : natAt g.body 1 1 = 0
    · rw [if_pos h0, h0]
      exact if_neg (by decide)
    · rw [if_neg h0]
      exact if_pos (bne_iff_ne.mpr h0)
  · rw [show g.code = 3 from h]
    have hbody : snapshotBody s1 =
        [3] ++ be 1 s1.meter.mode.code ++ be 1 s1.link.mode.code
          ++ be 1 (s1.emu.state.code + (if s1.emu.covert then 4 else 0) + (if s1.dcu.barred then 8 else 0))
          ++ be 2 s1.emu.episode ++ be 1 s1.zone.zone ++ be 2 active
          ++ be 1 (jobState * 64 + s1.jobs.queued.length % 4) := by
      rw [snapshotBody, snapshotFlags_eq, snapshotJobs_eq]
      rfl
    exact congrArg (s1.queue .statusReply) hbody
  · have hlarge := fun n => Telegram.isQuery_of_large hk (show 3 < g.code from h) n
    have hdropped := State.takeStatusQuery_of_large (s := s1) (show 3 < g.code from h) (natAt g.body 1 1 != 0)
    exact ⟨hand rfl (hlarge 0) hdropped, hand rfl (hlarge 1) hdropped, hand rfl (hlarge 2) hdropped,
      hand rfl (hlarge 3) hdropped⟩

end
end

section
/-!
PROOFS. LOAD OPEN and LOAD DATA (section 11.3).
-/

namespace Sys2Proof.Machine

/-! ## The image -/

/-- Bytes written one after another are read back, and every other offset as before (R189). -/
theorem Memory.read_writeAll {m : Memory} (bytes : List Byte) (o a : Nat) (h : m.wf = true) :
    (m.writeAll o bytes).read a =
      if o ≤ a ∧ a < o + bytes.length then (bytes[a - o]?).getD 0 else m.read a := by
  induction bytes generalizing m o with
  | nil => exact (if_neg fun h => by rw [List.length_nil] at h; omega).symm
  | cons b rest ih =>
    rw [Memory.writeAll, ih (o + 1) (Memory.wf_write h o b), Memory.read_write o a b h, List.length_cons]
    by_cases ha : a = o
    · subst ha
      rw [if_neg (by omega), if_pos rfl, if_pos (by omega), Nat.sub_self]
      rfl
    · by_cases hin : o ≤ a ∧ a < o + (rest.length + 1)
      · rw [if_pos (by omega), if_pos hin, show a - o = (a - (o + 1)) + 1 by omega, List.getElem?_cons_succ]
      · rw [if_neg (by omega), if_neg ha, if_neg hin]

/-! ## The load commands -/

section

variable {i : Instr} {s : State} {t : Stamp} {calen : Bool}

/-- A load command from the air whose telegram is handed on (log entry 6). -/
theorem exec_load_of_hears {rx : List Byte} {g : Telegram} (hv : s.vdd = true)
    (hg : ((s.advanceTo t).setCalen calen).hears rx g) {kind : DownKind}
    (he : exec i s = .next ((s.beforeBytes t rx).event t fun s =>
      (s.setCalen calen).delivery rx (Telegram.isKind kind) State.handOver)) (hk : g.kind = kind) {q : State}
    (hq : State.handOver g (((s.advanceTo t).setCalen calen).found g.site) = q) :
    exec i s = .next (((s.advanceTo t).setCalen calen).afterReport g.site q) := by
  obtain ⟨d, hc, ha, hf⟩ := hg
  have hclosing : (s.advanceTo t).closing rx = some d := hc
  rw [he, State.beforeBytes_of_closing hclosing, State.event_of_vdd hv,
    State.delivery_of_hears ⟨d, hc, ha, hf⟩ (Telegram.isKind_of hk), hq]

/-- A load command from the cab port that the part takes. -/
theorem exec_load_of_takes (h : s.takes) {kind : Byte} {act : State → Answer}
    (he : exec i s = .next (s.event t fun s => (s.setCalen calen).toHunt.answer kind act)) {a : Answer}
    (ha : act ((s.advanceTo t).setCalen calen).toHunt = a) :
    exec i s = .next (a.state.respond kind a.code a.fields) := by
  subst ha
  have hcab : (s.advanceTo t).cab.responses = s.cab.responses := congrArg CabPort.responses (s.advanceTo_cab t)
  have hroom : ¬ Config.responsesMax ≤ (s.advanceTo t).cab.responses := by
    rw [hcab]
    exact Nat.not_le_of_lt h.2
  rw [he, State.event_of_vdd h.1, State.answer]
  exact congrArg Host.Outcome.next (if_neg hroom)

end

section

variable {s : State}

theorem State.airLoadOpen_of_none {arg : LoadOpenArg} (h : TableKind.ofCode arg.kind.toNat = none) :
    s.airLoadOpen arg = s := by
  rw [State.airLoadOpen, h]

theorem State.airLoadOpen_of_kind {arg : LoadOpenArg} {kind : TableKind}
    (h : TableKind.ofCode arg.kind.toNat = some kind) :
    s.airLoadOpen arg =
      if kind = .calibration ∧ s.calen = false then s.loadResult 7 arg.version.toNat .locked
      else s.openLoad kind arg.version.toNat := by
  rw [State.airLoadOpen, h]

theorem State.cabLoadOpen_of_locked {arg : LoadOpenArg} (h : s.calen = false) :
    s.cabLoadOpen arg = s.refuse .locked := by
  rw [State.cabLoadOpen, h]
  rfl

theorem State.cabLoadOpen_of_none {arg : LoadOpenArg} (h : s.calen = true)
    (hk : TableKind.ofCode arg.kind.toNat = none) : s.cabLoadOpen arg = s.refuse .argument := by
  rw [State.cabLoadOpen, h, hk]
  rfl

theorem State.cabLoadOpen_of_kind {arg : LoadOpenArg} (h : s.calen = true) {kind : TableKind}
    (hk : TableKind.ofCode arg.kind.toNat = some kind) :
    s.cabLoadOpen arg = (s.openLoad kind arg.version.toNat).doneWith [] := by
  rw [State.cabLoadOpen, h, hk]
  rfl

/-- Some byte lies past the end of the image (R189). -/
theorem Staged.drops_iff {g : Staged} {arg : LoadDataArg} (h : arg.data ≠ []) :
    g.drops arg = true ↔ g.kind.length < arg.offset.toNat + arg.data.length := by
  have hpos := List.length_pos_iff.mpr h
  rw [Staged.drops, Staged.inside, List.length_take, decide_eq_true_iff]
  omega

theorem State.writeLoad_of_none {arg : LoadDataArg} (hd : arg.data ≠ []) (h : s.dcu.staging = none) :
    s.writeLoad arg = s.countDiscarded := by
  rw [State.writeLoad, h]
  exact if_neg (by rw [List.isEmpty_iff]; exact hd)

theorem State.writeLoad_of_staged {arg : LoadDataArg} (hd : arg.data ≠ []) {g : Staged}
    (h : s.dcu.staging = some g) :
    s.writeLoad arg =
      if g.kind.length < arg.offset.toNat + arg.data.length then (s.setStaging (some (g.write arg))).countDiscarded
      else s.setStaging (some (g.write arg)) := by
  rw [State.writeLoad, h]
  exact if_congr (Staged.drops_iff hd) rfl rfl

theorem State.cabLoadData_of_locked {arg : LoadDataArg} (h : s.calen = false) :
    s.cabLoadData arg = s.refuse .locked := by
  rw [State.cabLoadData, h]
  rfl

theorem State.cabLoadData_of_none {arg : LoadDataArg} (hc : s.calen = true) (h : s.dcu.staging = none) :
    s.cabLoadData arg = (s.writeLoad arg).refuse .state := by
  rw [State.cabLoadData, hc, State.loadWrite, h]
  rfl

theorem State.cabLoadData_of_staged {arg : LoadDataArg} (hc : s.calen = true) (hd : arg.data ≠ []) {g : Staged}
    (h : s.dcu.staging = some g) :
    s.cabLoadData arg =
      { state := s.writeLoad arg
        code := if g.kind.length < arg.offset.toNat + arg.data.length then .argument else .done
        fields := [] } := by
  rw [State.cabLoadData, hc, State.loadWrite, h]
  by_cases hdrop : g.kind.length < arg.offset.toNat + arg.data.length
  · simp only [(Staged.drops_iff hd).mpr hdrop, if_pos hdrop]
    rfl
  · simp only [Bool.eq_false_of_not_eq_true (mt (Staged.drops_iff hd).mp hdrop), if_neg hdrop]
    rfl

end

end Sys2Proof.Machine

section
open Sys2Proof Sys2Proof.Machine

/-- Settles O43: by the staged image, and by the port that the load comes from. -/
theorem loadOpenAndData : Obligations.LoadOpenAndData := by
  refine ⟨fun m bytes o a h => Memory.read_writeAll bytes o a h, fun _ => rfl, fun s t calen hv => ?_⟩
  intro s0 opened counted written
  have hdcu : s0.dcu = s.dcu := s.advanceTo_dcu t
  have hwritten : ∀ (q : State) (g : Staged) (arg : LoadDataArg), arg.data ≠ [] → q.dcu.staging = some g →
      q.writeLoad arg = written q g arg := fun q g arg hd hq => State.writeLoad_of_staged hd hq
  have hfound : ∀ site, (s0.found site).dcu = s.dcu := fun site => (s0.found_dcu site).trans hdcu
  refine ⟨fun rx g hg hk => ?_, fun rx g hg hk hd => ?_,
    fun h arg => ⟨fun hc => ?_, fun hc hn => ?_, fun kind hc hn => ?_⟩,
    fun h arg hd => ⟨fun hc => ?_, fun hc hn => ?_, fun staged hc hn => ?_⟩⟩
  · intro s1 ended arg
    have hopen : ∀ {q}, s1.airLoadOpen arg = q → exec (.loadOpen t calen (.air rx)) s = .next (ended q) := fun hq =>
      exec_load_of_hears (i := .loadOpen t calen (.air rx)) hv hg rfl hk (by rw [State.handOver, hk]; exact hq)
    have hcalen : s1.calen = calen := by
      have heq := s0.closeRx.linkReport_eq g.site
      exact (congrArg State.calen heq).trans rfl
    refine ⟨fun hn => hopen (State.airLoadOpen_of_none hn), fun h7 hc => hopen ?_, fun kind hn hc => hopen ?_⟩
    · refine (State.airLoadOpen_of_kind (kind := .calibration) (by rw [h7]; rfl)).trans ?_
      exact if_pos ⟨rfl, by rw [hcalen, hc]⟩
    · refine (State.airLoadOpen_of_kind hn).trans (if_neg ?_)
      rw [hcalen]
      rintro ⟨hk, hf⟩
      exact hc.elim (fun h => h hk) fun h => by rw [h] at hf; cases hf
  · intro s1 ended
    have hwrite : ∀ {q}, s1.writeLoad (loadDataArg g.body) = q →
        exec (.loadData t calen (.air rx)) s = .next (ended q) := fun hq =>
      exec_load_of_hears (i := .loadData t calen (.air rx)) hv hg rfl hk (by rw [State.handOver, hk]; exact hq)
    refine ⟨fun hn => hwrite (State.writeLoad_of_none hd (by rw [hfound]; exact hn)), fun staged hn => hwrite ?_⟩
    exact hwritten s1 staged _ hd (by rw [hfound]; exact hn)
  · exact exec_load_of_takes (i := .loadOpen t calen (.cab arg)) (act := fun s => s.cabLoadOpen arg) h rfl
      (State.cabLoadOpen_of_locked hc)
  · exact exec_load_of_takes (i := .loadOpen t calen (.cab arg)) (act := fun s => s.cabLoadOpen arg) h rfl
      (State.cabLoadOpen_of_none hc hn)
  · exact exec_load_of_takes (i := .loadOpen t calen (.cab arg)) (act := fun s => s.cabLoadOpen arg) h rfl
      (State.cabLoadOpen_of_kind hc hn)
  · exact exec_load_of_takes (i := .loadData t calen (.cab arg)) (act := fun s => s.cabLoadData arg) h rfl
      (State.cabLoadData_of_locked hc)
  · refine (exec_load_of_takes (i := .loadData t calen (.cab arg)) (act := fun s => s.cabLoadData arg) h rfl
      (State.cabLoadData_of_none hc (by rw [State.toHunt_dcu, hdcu, hn]))).trans ?_
    rw [State.writeLoad_of_none hd (by rw [State.toHunt_dcu, hdcu, hn])]
    rfl
  · refine (exec_load_of_takes (i := .loadData t calen (.cab arg)) (act := fun s => s.cabLoadData arg) h rfl
      (State.cabLoadData_of_staged (g := staged) hc hd (by rw [State.toHunt_dcu, hdcu, hn]))).trans ?_
    rw [hwritten _ staged _ hd (by rw [State.toHunt_dcu, hdcu, hn])]
    simp only [written]
    by_cases hdrop : staged.kind.length < arg.offset.toNat + arg.data.length
    · simp only [if_pos hdrop]
      rfl
    · simp only [if_neg hdrop]
      rfl

end
end

section
/-!
PROOFS. LOAD COMMIT (section 11.3), and the commit of each table.
-/

namespace Sys2Proof.Machine

/-! ## The tests of R191 -/

section

variable {s : State} {g : Staged} {check : BitVec 16}

theorem State.commitTests_of_check (h : check ≠ g.check) : s.commitTests g check = .check := by
  rw [State.commitTests, if_pos h]

theorem State.commitTests_of_badField (h : check = g.check) {n : Nat} (hb : g.badField = some n) :
    s.commitTests g check = .invalid n := by
  rw [State.commitTests, if_neg (not_not.mpr h), hb]

theorem State.commitTests_of_fields (h : check = g.check) (hb : g.badField = none) :
    s.commitTests g check =
      if g.kind = .calibration ∧ s.calen = false then .locked
      else if g.kind = .calibration ∧ (s.meter.mode = .hired ∨ s.meter.mode = .stopped) then .busy
      else .done := by
  rw [State.commitTests, if_neg (not_not.mpr h), hb]

theorem State.commit_of_none (h : s.dcu.staging = none) : s.afterCommit check = s ∧ s.commitOutcome check = .notOpen := by
  rw [State.afterCommit, State.commitOutcome, h]
  exact ⟨rfl, rfl⟩

theorem State.commit_of_busy (h : s.dcu.staging = some g) (ht : s.commitTests g check = .busy) :
    s.afterCommit check = s ∧ s.commitOutcome check = .busy := by
  rw [State.afterCommit, State.commitOutcome, h]
  simp only [ht, true_and]

theorem State.commit_of_done (h : s.dcu.staging = some g) (ht : s.commitTests g check = .done) :
    s.afterCommit check = s.commit g ∧ s.commitOutcome check = .done := by
  rw [State.afterCommit, State.commitOutcome, h]
  simp only [ht, true_and]

theorem State.commit_of_discarded (h : s.dcu.staging = some g) {outcome : LoadOutcome}
    (ht : s.commitTests g check = outcome) (ho : outcome = .check ∨ outcome = .locked ∨ ∃ n, outcome = .invalid n) :
    s.afterCommit check = s.setStaging none ∧ s.commitOutcome check = outcome := by
  rw [State.afterCommit, State.commitOutcome, h]
  rcases ho with rfl | rfl | ⟨n, rfl⟩
  · simp only [ht, true_and]
  · simp only [ht, true_and]
  · simp only [ht, true_and]

/-- What a commit leaves and answers, by the tests in their order (R191). -/
theorem State.commit_tested {staging : Option Staged} {calen : Bool} {mode : MeterMode} (hs : s.dcu.staging = staging)
    (hc : s.calen = calen) (hm : s.meter.mode = mode) {answer : State → LoadOutcome → Prop}
    (h : answer (s.afterCommit check) (s.commitOutcome check)) :
    (staging = none → answer s .notOpen)
      ∧ ∀ g, staging = some g →
        (check ≠ g.check → answer (s.setStaging none) .check)
        ∧ (∀ n, check = g.check → g.badField = some n → answer (s.setStaging none) (.invalid n))
        ∧ (check = g.check → g.badField = none → g.kind = .calibration → calen = false →
          answer (s.setStaging none) .locked)
        ∧ (check = g.check → g.badField = none → g.kind = .calibration → calen = true →
          mode = .hired ∨ mode = .stopped → answer s .busy)
        ∧ (check = g.check → g.badField = none →
          g.kind ≠ .calibration ∨ (calen = true ∧ mode ≠ .hired ∧ mode ≠ .stopped) →
            answer (s.commit g) .done) := by
  subst hs hc hm
  have of : ∀ {q outcome}, s.afterCommit check = q ∧ s.commitOutcome check = outcome → answer q outcome := by
    rintro _ _ ⟨rfl, rfl⟩
    exact h
  refine ⟨fun hn => of (State.commit_of_none hn), fun g hg => ⟨fun hk => ?_, fun n hk hb => ?_, fun hk hb hkind hc => ?_,
    fun hk hb hkind hc hm => ?_, fun hk hb hcond => ?_⟩⟩
  · exact of (State.commit_of_discarded hg (State.commitTests_of_check hk) (.inl rfl))
  · exact of (State.commit_of_discarded hg (State.commitTests_of_badField hk hb) (.inr (.inr ⟨n, rfl⟩)))
  · exact of (State.commit_of_discarded hg ((State.commitTests_of_fields hk hb).trans (if_pos ⟨hkind, hc⟩))
      (.inr (.inl rfl)))
  · refine of (State.commit_of_busy hg ((State.commitTests_of_fields hk hb).trans
      ((if_neg ?_).trans (if_pos ⟨hkind, hm⟩))))
    rintro ⟨-, hf⟩
    rw [hc] at hf
    cases hf
  · refine of (State.commit_of_done hg ((State.commitTests_of_fields hk hb).trans ((if_neg ?_).trans (if_neg ?_))))
    · rintro ⟨hkind, hf⟩
      obtain ⟨hc, -⟩ := hcond.resolve_left (not_not.mpr hkind)
      rw [hc] at hf
      cases hf
    · rintro ⟨hkind, hm⟩
      obtain ⟨-, hh, hs⟩ := hcond.resolve_left (not_not.mpr hkind)
      exact hm.elim hh hs

theorem State.cabLoadCommit_of_locked (h : s.calen = false) : s.cabLoadCommit check = s.refuse .locked := by
  rw [State.cabLoadCommit, h]
  rfl

theorem State.cabLoadCommit_of_open (h : s.calen = true) :
    s.cabLoadCommit check =
      { state := s.afterCommit check
        code := (s.commitOutcome check).response
        fields := [be 1 (s.commitOutcome check).code, optional 2 (s.commitOutcome check).badOffset] } := by
  rw [State.cabLoadCommit, h]
  rfl

theorem State.found_calen (s : State) (site : Nat) : (s.found site).calen = s.calen := by
  rw [State.found, s.closeRx.linkReport_eq site]
  rfl

theorem State.found_meter (s : State) (site : Nat) : (s.found site).meter = s.meter := by
  rw [State.found, s.closeRx.linkReport_eq site]
  rfl

end

end Sys2Proof.Machine

section
open Sys2Proof Sys2Proof.Machine

/-- Settles O45: by the tests in their order, for a commit from the air and from the cab port. -/
theorem loadCommitOutcomes : Obligations.LoadCommitOutcomes := by
  intro s t calen check hv s0 tested
  have hdcu : s0.dcu = s.dcu := s.advanceTo_dcu t
  have hmeter : s0.meter = s.meter := s.advanceTo_meter t
  refine ⟨fun rx g hg hk hn => ?_, fun h hc => ?_, fun h hc => ?_⟩
  · intro kind version
    have hcheck : BitVec.ofNat 16 (natAt g.body 0 2) = check := by rw [hn, BitVec.ofNat_toNat, BitVec.setWidth_eq]
    have hstaging : (s0.found g.site).dcu.staging = s.dcu.staging := by rw [State.found_dcu, hdcu]
    refine State.commit_tested (s := s0.found g.site) (check := check) hstaging (State.found_calen s0 g.site)
      (by rw [State.found_meter, hmeter])
      (answer := fun q outcome => exec (.loadCommit t calen (.air rx)) s = .next
        (s0.afterReport g.site
          (q.queue .loadResult
            (be 1 kind ++ be 2 version ++ be 1 outcome.code ++ be 2 (outcome.badOffset.getD 0))))) ?_
    refine exec_load_of_hears (i := .loadCommit t calen (.air rx)) hv hg rfl hk ?_
    rw [State.handOver, hk]
    simp only [hcheck]
    rw [State.airLoadCommit, State.stagedKind, State.stagedVersion, hstaging]
    rfl
  · exact exec_load_of_takes (i := .loadCommit t calen (.cab check)) (act := fun s => s.cabLoadCommit check) h rfl
      (State.cabLoadCommit_of_locked hc)
  · refine State.commit_tested (s := s0.toHunt) (check := check) (by rw [State.toHunt_dcu, hdcu]) (calen := calen) rfl
      (by rw [State.toHunt_meter, hmeter])
      (answer := fun q outcome => exec (.loadCommit t calen (.cab check)) s = .next
        (q.respond 0x16 outcome.response [be 1 outcome.code, optional 2 outcome.badOffset])) ?_
    exact exec_load_of_takes (i := .loadCommit t calen (.cab check)) (act := fun s => s.cabLoadCommit check) h rfl
      (State.cabLoadCommit_of_open hc)

end
end

section
/-!
PROOFS. What a commit does at the table of its kind and at its owner (section 11.3).
-/

namespace Sys2Proof.Machine

/-! ## The entry that keeps a lock (R27) -/

theorem findIdx?_of_first {α : Type} {p : α → Bool} {l : List α} {i : Nat} {x : α} (hx : l[i]? = some x)
    (hp : p x = true) (hf : ∀ j y, j < i → l[j]? = some y → ¬ p y = true) : l.findIdx? p = some i := by
  obtain ⟨hi, rfl⟩ := List.getElem?_eq_some_iff.mp hx
  rw [List.findIdx?_eq_some_iff_getElem]
  exact ⟨hi, hp, fun j hj => hf j _ hj (List.getElem?_eq_getElem _)⟩

section

variable {list : List Channel} {number i : Nat} {site : Option Nat} {x : Channel}

theorem Channel.keeps_iff {c : Channel} :
    (c.number == number && (c.site == site || c.site.isNone)) = true
      ↔ c.number = number ∧ (c.site = site ∨ c.site = none) := by
  simp

/-- The lowest index of the channel number with the locked site or ANY. -/
theorem keptEntry_of_site (hx : list[i]? = some x) (hn : x.number = number) (hs : x.site = site ∨ x.site = none)
    (hf : ∀ j y, j < i → list[j]? = some y → ¬ (y.number = number ∧ (y.site = site ∨ y.site = none))) :
    keptEntry list number site = some i := by
  rw [keptEntry, findIdx?_of_first hx (Channel.keeps_iff.mpr ⟨hn, hs⟩)
    fun j y hj hy hk => hf j y hj hy (Channel.keeps_iff.mp hk)]

theorem findIdx?_site_of_none (h : ∀ y ∈ list, ¬ (y.number = number ∧ (y.site = site ∨ y.site = none))) :
    list.findIdx? (fun c => c.number == number && (c.site == site || c.site.isNone)) = none :=
  List.findIdx?_eq_none_iff.mpr fun y hy => Bool.eq_false_of_not_eq_true fun hk => h y hy (Channel.keeps_iff.mp hk)

/-- Failing one, the lowest index of the channel number. -/
theorem keptEntry_of_number (hx : list[i]? = some x) (hn : x.number = number)
    (h : ∀ y ∈ list, ¬ (y.number = number ∧ (y.site = site ∨ y.site = none)))
    (hf : ∀ j y, j < i → list[j]? = some y → y.number ≠ number) : keptEntry list number site = some i := by
  rw [keptEntry, findIdx?_site_of_none h]
  exact findIdx?_of_first hx (beq_iff_eq.mpr hn) fun j y hj hy hk => hf j y hj hy (beq_iff_eq.mp hk)

theorem keptEntry_of_none (h : ∀ y ∈ list, y.number ≠ number) : keptEntry list number site = none := by
  rw [keptEntry, findIdx?_site_of_none fun y hy hk => h y hy hk.1]
  exact List.findIdx?_eq_none_iff.mpr fun y hy => beq_eq_false_iff_ne.mpr (h y hy)

end

/-! ## The Link Controller and the Zone Unit at a commit (R27, R65) -/

section

variable {s : State}

theorem State.channelsCommitted_of_not_locked (h : s.link.mode ≠ .locked) (old : List Channel) :
    s.channelsCommitted old = s.enterHunting 0 := by
  unfold State.channelsCommitted
  split
  · rfl
  · rfl
  next hl => exact absurd hl h

theorem State.channelsCommitted_of_kept (h : s.link.mode = .locked) {old : List Channel} {c : Channel} {i : Nat}
    (hc : old[s.link.entry]? = some c) (hk : keptEntry s.channels c.number s.link.lockedSite = some i) :
    s.channelsCommitted old = s.setLink { s.link with entry := i } := by
  rw [State.channelsCommitted, h, hc]
  simp only [Option.bind_some, hk]

theorem State.channelsCommitted_of_lost (h : s.link.mode = .locked) {old : List Channel} {c : Channel}
    (hc : old[s.link.entry]? = some c) (hk : keptEntry s.channels c.number s.link.lockedSite = none) :
    s.channelsCommitted old = (s.leaveLocked.linkNoticeOf .unlocked (some c)).enterHunting 0 := by
  rw [State.channelsCommitted, h, hc]
  simp only [Option.bind_some, hk]

/-- The notice of a lock whose channel is gone, and the hunt from entry 0 (R27, R29, log entry 11). -/
theorem State.leaveLocked_hunts (s : State) (c : Channel) :
    (s.leaveLocked.linkNoticeOf .unlocked (some c)).enterHunting 0 =
      (s.leaveLocked.raise .link 1
        (be 1 1 ++ (1 :: be 1 s.link.entry) ++ (1 :: be 2 c.number) ++ (1 :: be 1 c.role.code) ++ [0, 0])).setLink
        (s.leaveLocked.huntsAt 0 s.link.huntPasses) := by
  have hlink : s.leaveLocked.link = { s.link with mode := .hunting, lockedSite := none } := by
    rw [State.leaveLocked, State.setLink_link, s.endAccess_link]
  have hsummary : s.leaveLocked.linkSummary (some c) =
      be 1 1 ++ (1 :: be 1 s.link.entry) ++ (1 :: be 2 c.number) ++ (1 :: be 1 c.role.code) ++ [0, 0] := by
    rw [State.linkSummary, hlink]
    rfl
  obtain ⟨port, -, hraise⟩ := s.leaveLocked.raise_eq .link 1 (s.leaveLocked.linkSummary (some c))
  have hnotice : s.leaveLocked.linkNoticeOf .unlocked (some c) = s.leaveLocked.setCab port := hraise
  rw [← hsummary, hraise, State.enterHunting_eq, hnotice, State.setCab_link, hlink]
  rfl

theorem State.zoneMapCommitted_of_none (h : s.zone.cell = none) : s.zoneMapCommitted = s := by
  rw [State.zoneMapCommitted, h]

theorem State.zoneMapCommitted_of_some {c : Cell} (h : s.zone.cell = some c) :
    s.zoneMapCommitted =
      if s.zoneAt c ≠ s.zone.zone ∧ s.zoneAt c ≠ 0 ∧ s.meter.mode = .vacant ∧ s.dcu.barred = false
          ∧ s.op.zoneReporting = true then
        (s.setZone { s.zone with zone := s.zoneAt c }).queue .zoneChange
          (be 1 (s.zoneAt c) ++ [s.address.attributes])
      else s.setZone { s.zone with zone := s.zoneAt c } := by
  have hchanged : (s.setZone { s.zone with zone := s.zoneAt c }).zoneChanged s.zone.zone = true ↔
      s.zoneAt c ≠ s.zone.zone ∧ s.zoneAt c ≠ 0 ∧ s.meter.mode = .vacant ∧ s.dcu.barred = false
        ∧ s.op.zoneReporting = true := by
    unfold State.zoneChanged
    simp only [Bool.and_eq_true, bne_iff_ne, beq_iff_eq, Bool.not_eq_true', and_assoc]
    exact Iff.rfl
  rw [State.zoneMapCommitted, h]
  unfold State.zoneRule
  by_cases hz : s.zoneAt c ≠ s.zone.zone ∧ s.zoneAt c ≠ 0 ∧ s.meter.mode = .vacant ∧ s.dcu.barred = false
      ∧ s.op.zoneReporting = true
  · rw [if_pos hz]
    exact congrArg Joined.state (if_pos (hchanged.mpr hz))
  · rw [if_neg hz]
    exact congrArg Joined.state (if_neg (mt hchanged.mp hz))

end

end Sys2Proof.Machine

section
open Sys2Proof Sys2Proof.Machine

/-- Settles O46: by the kind of the staged table. -/
theorem commitOfEachKind : Obligations.CommitOfEachKind := by
  intro s g base notice zone
  have hflag : flagByte (g.kind == .tariffSet) = if g.kind = .tariffSet then 1 else 0 := by
    rw [flagByte]
    exact if_congr beq_iff_eq rfl rfl
  have hcommit : ∀ q, s.commitTable g = q → s.commit g = notice q := fun q hq => by
    rw [State.commit, hq, State.tableNotice, hflag]
  refine ⟨fun hk => hcommit _ ?_, fun hk => ?_, fun hk hl => ?_, fun c hk hl hc => ?_, fun hk => hcommit _ ?_,
    fun hk => hcommit _ ?_, fun hk => hcommit _ ?_, fun hk => hcommit _ ?_⟩
  · rw [State.commitTable, hk]
    rfl
  · intro s1
    have htable : s.commitTable g = s1.zoneMapCommitted := by
      rw [State.commitTable, hk]
      rfl
    refine ⟨fun hc => hcommit _ (htable.trans (State.zoneMapCommitted_of_none hc)), fun c hc => hcommit _ ?_⟩
    rw [htable, State.zoneMapCommitted_of_some (s := s1) hc, State.zoneAt_eq]
    rfl
  · intro s1
    refine hcommit _ ?_
    rw [State.commitTable, hk]
    exact (State.channelsCommitted_of_not_locked (s := s1) hl s.channels).trans (s1.enterHunting_eq 0)
  · intro list s1
    have htable : s.commitTable g = s1.channelsCommitted s.channels := by
      rw [State.commitTable, hk]
      rfl
    refine ⟨fun i x hx hn hs hf => hcommit _ (htable.trans ?_), fun i x hx hn h hf => hcommit _ (htable.trans ?_),
      fun h => hcommit _ (htable.trans ?_)⟩
    · exact State.channelsCommitted_of_kept (s := s1) hl hc (keptEntry_of_site hx hn hs hf)
    · exact State.channelsCommitted_of_kept (s := s1) hl hc (keptEntry_of_number hx hn h hf)
    · rw [State.channelsCommitted_of_lost (s := s1) hl hc (keptEntry_of_none h), State.leaveLocked_hunts]
      rfl
  · rw [State.commitTable, hk]
    rfl
  · rw [State.commitTable, hk]
    rfl
  · rw [State.commitTable, hk]
    rfl
  · rw [State.commitTable, hk]
    rfl

end
end

section
/-!
PROOFS. The supply and the retained store (section 11.8).
-/

namespace Sys2Proof.Machine

/-! ## A power-on with a valid store (R199) -/

section

variable {s : State}

/-- The retained items as the backup monitor leaves them with its latch clear, all else as after reset. -/
def State.restored (s : State) : State :=
  ((s.blank.setVdd true).setVbakLatch false).setDcu { s.dcu.retained with retainedValid := true }

theorem State.checkStore_of_valid (h : s.vbakLatch = false) : (s.blank.setVdd true).checkStore = s.restored := by
  have hb : (s.blank.setVdd true).vbakLatch = false := h
  unfold State.checkStore
  simp only
  rw [hb]
  rfl

theorem State.powerOn_of_valid (h : s.vbakLatch = false) :
    s.powerOn = s.restored.closeInterrupted.startUls.startLink := by
  rw [State.powerOn, State.checkStore_of_valid h]

theorem CabPort.joinNotice_reset (kind : NoticeKind) (cause : Byte) (summary : List Byte) :
    CabPort.reset.joinNotice (.notice kind cause summary) =
      { CabPort.reset with
        sending := some (frameBytes 0x81 ([BitVec.ofNat 8 kind.code, cause, 0] ++ summary)) } := rfl

theorem State.huntsAt_entry (s : State) (entry passes : Nat) : (s.huntsAt entry passes).entry = entry := by
  unfold State.huntsAt
  split <;> rfl

theorem State.startLink_of_nochan (hl : s.link = Link.reset) (hd : s.dcu.channels = none)
    (hc : s.cab = CabPort.reset) :
    s.startLink =
      s.setCab
        { CabPort.reset with
          sending := some (frameBytes 0x81 ([5, 2, 0] ++ [0, 0, 0, 0, 0, 0, 0, 0, 0, 0])) } := by
  unfold State.startLink
  rw [if_neg (by rw [hd]; decide)]
  unfold State.linkNotice State.linkNoticeOf
  rw [State.raise_of_all (by rw [hc]; rfl), State.linkSummary_of_reset hl, hc]
  rfl

/-- With a channel list the link hunts from entry 0, and its notice shows that entry (R32). -/
theorem State.startLink_of_channels (hl : s.link = Link.reset) (hd : s.dcu.channels ≠ none)
    (hc : s.cab = CabPort.reset) :
    s.startLink =
      (s.setLink (s.huntsAt 0 0)).setCab
        { CabPort.reset with
          sending := some (frameBytes 0x81 ([5, 2, 0] ++
            (be 1 1 ++ optional 1 ((s.channels[0]?).map (fun _ => 0)) ++ optional 2 ((s.channels[0]?).map (fun c => c.number))
              ++ optional 1 ((s.channels[0]?).map (fun c => c.role.code)) ++ [0, 0]))) } := by
  have hmode : (s.huntsAt 0 0).mode = .hunting := s.huntsAt_mode 0 0
  have hentry : (s.huntsAt 0 0).entry = 0 := s.huntsAt_entry 0 0
  have hchannel : (s.setLink (s.huntsAt 0 0)).currentChannel = s.channels[0]? := by
    rw [State.currentChannel, State.setLink_link, hmode, if_neg nofun, hentry]
    rfl
  have hsummary : (s.setLink (s.huntsAt 0 0)).linkSummary (s.channels[0]?) =
      be 1 1 ++ optional 1 ((s.channels[0]?).map (fun _ => 0)) ++ optional 2 ((s.channels[0]?).map (fun c => c.number))
        ++ optional 1 ((s.channels[0]?).map (fun c => c.role.code)) ++ [0, 0] := by
    rw [State.linkSummary, State.setLink_link, hmode, hentry, if_neg nofun]
    rfl
  unfold State.startLink
  rw [if_pos (Option.isSome_iff_ne_none.mpr hd), State.enterHunting_eq, hl]
  unfold State.linkNotice State.linkNoticeOf
  rw [show Link.reset.huntPasses = 0 from rfl, hchannel, hsummary, State.raise_of_all (by rw [State.setLink_cab, hc]; rfl),
    State.setLink_cab, hc, CabPort.joinNotice_reset]
  rfl

/-- What the LINK notice of a power-on with a valid store shows (R29, R32). -/
def State.powerOnSummary (s : State) : List Byte :=
  if s.dcu.channels = none then [0, 0, 0, 0, 0, 0, 0, 0, 0, 0]
  else
    be 1 1 ++ optional 1 ((s.channels[0]?).map (fun _ => 0)) ++ optional 2 ((s.channels[0]?).map (fun c => c.number))
      ++ optional 1 ((s.channels[0]?).map (fun c => c.role.code)) ++ [0, 0]

/-- The close of an interrupted trip touches the trips and the meter alone (R135). -/
theorem State.closeInterrupted_parts (s : State) :
    s.closeInterrupted = (s.setTrips s.closeInterrupted.trips).setMeter s.closeInterrupted.meter := by
  unfold State.closeInterrupted
  split <;> rfl

/-- A power-on with a valid store: all but the link and its notice (R199). -/
theorem State.powerOn_valid_eq (h : s.vbakLatch = false) :
    ∃ l, s.powerOn =
        (s.restored.closeInterrupted.startUls.setLink l).setCab
          { CabPort.reset with sending := some (frameBytes 0x81 ([5, 2, 0] ++ s.powerOnSummary)) }
      ∧ l.mode = if s.dcu.channels = none then .nochan else .hunting := by
  have hparts := s.restored.closeInterrupted_parts
  have hlink : s.restored.closeInterrupted.startUls.link = Link.reset := by
    rw [hparts]
    rfl
  have hcab : s.restored.closeInterrupted.startUls.cab = CabPort.reset := by
    rw [hparts]
    rfl
  have hdcu : s.restored.closeInterrupted.startUls.dcu = s.restored.dcu := by
    rw [hparts]
    rfl
  have hlist : s.restored.closeInterrupted.startUls.channels = s.channels := by
    rw [State.channels, hdcu]
    rfl
  rw [State.powerOn_of_valid h, State.powerOnSummary]
  by_cases hc : s.dcu.channels = none
  · refine ⟨Link.reset, ?_, (if_pos hc).symm⟩
    rw [State.startLink_of_nochan hlink (by rw [hdcu]; exact hc) hcab, if_pos hc, ← hlink]
    rfl
  · refine ⟨s.restored.closeInterrupted.startUls.huntsAt 0 0, ?_, ?_⟩
    · rw [State.startLink_of_channels hlink (by rw [hdcu]; exact hc) hcab, if_neg hc, hlist]
    · rw [if_neg hc, State.huntsAt_mode]

/-! ## The trip that a power-on finds in progress (R135, R150) -/

/-- The shift record after a trip closed at a power-on, field by field (R140, R150). -/
theorem ShiftRecord.add_interrupted (r : ShiftRecord) (lost : Bool) (p : Trip) (sequence : Nat) :
    (r.countLost lost).add (p.record sequence .unsettled true) =
      { r with
        unreportedLost := if lost then min 65535 (r.unreportedLost + 1) else r.unreportedLost
        trips := min 65535 (r.trips + 1)
        hiredMetres := sumUp r.hiredMetres p.metres
        hiredSeconds := sumUp r.hiredSeconds p.seconds
        fareSum := sumUp r.fareSum p.fare
        extrasSum := sumUp r.extrasSum p.extras
        surchargeSum := sumUp r.surchargeSum p.surcharge
        chargedSum := sumUp r.chargedSum p.charged
        cashSum := sumUp r.cashSum 0
        cardSum := sumUp r.cardSum 0
        accountSum := sumUp r.accountSum 0
        unsettledSum := sumUp r.unsettledSum p.charged
        fixedTrips := if p.price.isSome then min 65535 (r.fixedTrips + 1) else r.fixedTrips
        interrupted := min 65535 (r.interrupted + 1)
        firstTrip := some (r.firstTrip.getD sequence)
        lastTrip := some sequence } := by
  cases lost <;> rfl

/-- A record lost is lost with or without its close stamp. -/
theorem Trips.slotUnreported_retained (t : Trips) (sequence : Nat) :
    t.retained.slotUnreported sequence = t.slotUnreported sequence := by
  have hlog : t.retained.log[slotOf sequence]? = (t.log[slotOf sequence]?).map (Option.map HeldTrip.restamp) :=
    List.getElem?_map
  rw [Trips.slotUnreported, Trips.slotUnreported, hlog]
  rcases t.log[slotOf sequence]? with _ | _ | h <;> rfl

theorem State.closeInterrupted_of_some {p : Trip} (h : s.meter.trip = some p) :
    s.closeInterrupted =
      (s.setTrips (s.trips.close p .unsettled true s.now)).setMeter { s.meter with mode := .vacant, trip := none } := by
  rw [State.closeInterrupted, h]

theorem State.closeInterrupted_of_none (h : s.meter.trip = none) : s.closeInterrupted = s := by
  rw [State.closeInterrupted, h]

end

end Sys2Proof.Machine

section
open Sys2Proof Sys2Proof.Machine

/-- Settles O47: by the latch of VBAK, and by the trip in progress. -/
theorem supplyAndRetainedStore : Obligations.SupplyAndRetainedStore := by
  intro s zeroed
  have hretained : s.trips.retained = { s.trips with log := zeroed } := rfl
  refine ⟨rfl, fun hv => congrArg Host.Outcome.next (if_neg (by rw [hv]; decide)), fun hv => ?_, s.powerOn, rfl, ?_⟩
  · refine ⟨s.blank.setVdd false, congrArg Host.Outcome.next (if_pos hv), rfl, rfl, rfl, rfl, rfl, rfl, rfl, rfl, rfl,
      rfl, rfl, rfl, rfl⟩
  by_cases hb : s.vbakLatch = true
  · rw [State.powerOn_of_latch hb]
    refine ⟨rfl, rfl, rfl, rfl, rfl, rfl, rfl, rfl, rfl, rfl, rfl, rfl, rfl, rfl, rfl, rfl, rfl, rfl, rfl, fun _ => ?_,
      fun h => ?_⟩
    · exact ⟨rfl, rfl, rfl, rfl, rfl, rfl, rfl, rfl, rfl, rfl, rfl, rfl, rfl, rfl, rfl, rfl, rfl, rfl, rfl, rfl, rfl⟩
    · rw [hb] at h
      cases h
  · obtain ⟨l, hpower, hl⟩ := State.powerOn_valid_eq (Bool.eq_false_of_not_eq_true hb)
    have hparts := s.restored.closeInterrupted_parts
    have hmeter := s.restored.closeInterrupted_meter
    rw [hpower]
    generalize hq : s.restored.closeInterrupted = q at hparts hmeter
    have hdcu : q.dcu = s.restored.dcu := by rw [hparts]; rfl
    refine ⟨by rw [hparts]; rfl, by rw [hparts]; rfl, by rw [hparts]; rfl, by rw [hparts]; rfl, by rw [hparts]; rfl,
      by rw [hparts]; rfl, by rw [hparts]; rfl, rfl, rfl, by rw [hparts]; rfl, by rw [hparts]; rfl,
      by rw [hparts]; rfl, by rw [hparts]; rfl, by rw [hparts]; rfl, by rw [hparts]; rfl, by rw [hparts]; rfl,
      (congrArg Meter.trip hmeter), (congrArg Meter.m hmeter), ?_, fun h => absurd h hb, fun _ => ?_⟩
    · have hchannels : q.dcu.channels = s.dcu.channels := by rw [hdcu]; rfl
      show l.mode = if q.dcu.channels = none then .nochan else .hunting
      rw [hl, hchannels]
    · refine ⟨hdcu, rfl, fun hp => ?_, fun p hp => ?_⟩
      · have hsame : q = s.restored := hq ▸ State.closeInterrupted_of_none hp
        rw [hsame]
        exact ⟨rfl, rfl⟩
      · intro record lost
        have hclosed : q = _ := hq ▸ State.closeInterrupted_of_some (s := s.restored) hp
        rw [hclosed]
        refine ⟨rfl, ?_⟩
        have hadd := fun r : ShiftRecord => r.add_interrupted (s.trips.slotUnreported s.trips.sequence) p s.trips.sequence
        show s.trips.retained.close p .unsettled true 0 = _
        unfold Trips.close
        rw [show s.trips.retained.sequence = s.trips.sequence from rfl, Trips.slotUnreported_retained]
        simp only [hadd]
        rfl

end
end

section
/-!
PROOFS. The frames of the cab port (sections 12.1 and 12.3).
-/

namespace Sys2Proof.Machine

/-! ## The form of a frame (R201) -/

/-- The bytes after the first sum to 0. -/
theorem frameBytes_sum (kind : Byte) (body : List Byte) :
    (BitVec.ofNat 8 body.length :: kind :: body ++ [checkByte kind body]).foldl (· + ·) 0 = 0 := by
  rw [List.foldl_append, List.foldl_cons, List.foldl_nil, List.foldl_cons, List.foldl_cons, zero_add, checkByte]
  exact BitVec.add_right_neg _

/-! ## Joining and leaving (R204, R205) -/

section

variable {c : CabPort}

theorem CabPort.pump_of_nil (h : c.waiting = []) : c.pump = c := by
  unfold CabPort.pump
  rw [h]
  cases c.sending <;> rfl

theorem CabPort.pump_of_cons (hs : c.sending = none) {f : OutFrame} {rest : List OutFrame} (h : c.waiting = f :: rest) :
    c.pump = CabPort.begin { c with waiting := rest } f := by
  unfold CabPort.pump
  rw [hs, h]

theorem CabPort.joinNotice_of_room (h : c.notices < 20) (f : OutFrame) : c.joinNotice f = c.join f := by
  rw [CabPort.joinNotice, if_neg (show ¬ Config.noticesMax ≤ c.notices from Nat.not_le_of_lt h)]

/-- With 20 notices waiting the oldest is displaced (R205). -/
theorem CabPort.joinNotice_of_full (h : 20 ≤ c.notices) {front back : List OutFrame} {g : OutFrame}
    (hw : c.waiting = front ++ g :: back) (hf : ∀ x ∈ front, x.isResponse = true) (hg : g.isResponse = false)
    (f : OutFrame) :
    c.joinNotice f =
      CabPort.join
        { c with
          waiting := front ++ back
          noticesLost := min 65535 (c.noticesLost + 1)
          droppedSince := min 255 (c.droppedSince + 1) } f := by
  have herase : c.waiting.eraseP (fun g => !g.isResponse) = front ++ back := by
    rw [hw, List.eraseP_append_right _ fun x hx => by simp [hf x hx], List.eraseP_cons_of_pos (by simp [hg])]
  rw [CabPort.joinNotice, if_pos (show Config.noticesMax ≤ c.notices from h), herase]
  rfl

theorem OutFrame.rest_of_long {kind code mark : Byte} {result : List Byte} (h : 61 < result.length) :
    (OutFrame.response kind code mark result).rest = [.response kind code 0 (result.drop 61)] :=
  if_pos h

end

section

variable {s : State}

theorem State.raise_of_disabled {kind : NoticeKind} (h : ¬ s.cab.mask.getLsbD kind.code = true) (cause : Nat)
    (summary : List Byte) : s.raise kind cause summary = s := by
  rw [State.raise, if_neg h]

theorem State.raise_of_enabled {kind : NoticeKind} (h : s.cab.mask.getLsbD kind.code = true) (cause : Nat)
    (summary : List Byte) :
    s.raise kind cause summary = s.setCab (s.cab.joinNotice (.notice kind (BitVec.ofNat 8 cause) summary)) := by
  rw [State.raise, if_pos h]

theorem State.frameSent_of_free (h : s.cab.sending = none) : s.frameSent = s := by
  rw [State.frameSent, h]

theorem State.frameSent_of_busy (h : s.cab.sending ≠ none) :
    s.frameSent = s.setCab (CabPort.pump { s.cab with sending := none }) := by
  unfold State.frameSent
  split
  next => rfl
  next hn => exact absurd hn h

end

end Sys2Proof.Machine

section
open Sys2Proof Sys2Proof.Machine

/-- Settles O49: by the frame that joins or leaves, and by the frames that wait. -/
theorem framesLeaveInOrder : Obligations.FramesLeaveInOrder := by
  refine ⟨fun kind body => ⟨checkByte kind body, rfl, frameBytes_sum kind body⟩, ?_, ?_⟩
  · intro s kind cause summary c enabled f
    refine ⟨fun h => State.raise_of_disabled h cause summary, fun h hs hw => ?_, fun h hs hn => ?_,
      fun front g back h hs hn hw hf hg => ?_⟩
    all_goals rw [State.raise_of_enabled h]
    · have hnone : c.notices < 20 := by
        rw [CabPort.notices, hw]
        decide
      rw [CabPort.joinNotice_of_room hnone, CabPort.join_of_free hs hw]
      rfl
    · rw [CabPort.joinNotice_of_room hn, CabPort.join_of_busy hs]
    · rw [CabPort.joinNotice_of_full hn hw hf hg, CabPort.join_of_busy (show CabPort.sending { c with
        waiting := front ++ back
        noticesLost := min 65535 (c.noticesLost + 1)
        droppedSince := min 255 (c.droppedSince + 1) } ≠ none from hs)]
  · intro s t hv s0 c
    have hcab : s0.cab = c := s.advanceTo_cab t
    have hexec : exec (.frameSent t) s = .next s0.frameSent := exec_of_event hv rfl
    have hsent : c.sending ≠ none →
        exec (.frameSent t) s = .next (s0.setCab (CabPort.pump { c with sending := none })) := fun h => by
      rw [hexec, State.frameSent_of_busy (by rw [hcab]; exact h), hcab]
    refine ⟨fun h => ?_, fun h hw => ?_, fun kind code mark result rest h hw => ⟨fun hl => ?_, fun hl => ?_⟩,
      fun kind cause summary rest h hw => ?_, fun enables h => ?_⟩
    · rw [hexec, State.frameSent_of_free (by rw [hcab]; exact h)]
    · rw [hsent h, CabPort.pump_of_nil (c := { c with sending := none }) hw]
    · rw [hsent h, CabPort.pump_of_cons (c := { c with sending := none }) rfl hw, CabPort.begin,
        OutFrame.rest_of_short hl, List.take_of_length_le (show result.length ≤ Config.resultMax from hl)]
      rfl
    · rw [hsent h, CabPort.pump_of_cons (c := { c with sending := none }) rfl hw, CabPort.begin,
        OutFrame.rest_of_long hl]
      rfl
    · rw [hsent h, CabPort.pump_of_cons (c := { c with sending := none }) rfl hw]
      rfl
    · have hmask : (enables.setWidth 10).toNat = enables.toNat % 1024 := BitVec.toNat_setWidth 10 enables
      refine (exec_of_request (act := fun s => s.noticeMask enables) h rfl rfl).trans ?_
      rw [State.noticeMask, hmask]
      have hport : s0.toHunt.cab = { c with assembly := .hunt } := by rw [← hcab]; rfl
      rw [hport, ← hcab]
      rfl

end
end

section
/-!
PROOFS. The reads of the cab port (R207, R209).
-/

namespace Sys2Proof.Machine

/-! ## Lists in a result (R209) -/

/-- An item with its text whole, or with no text. -/
def ListItem.whole (i : ListItem) : List Byte :=
  match i.text with
  | some x => i.bytes x x.positions.length
  | none => i.fields

theorem ListItem.bytes_length (i : ListItem) (t : Text) (shown : Nat) :
    (i.bytes t shown).length = i.fields.length + 2 + min shown t.positions.length := by
  simp only [ListItem.bytes, List.length_append, List.length_map, be_length, List.length_take, List.length_cons,
    List.length_nil]
  omega

/-- A text that fits is not cut. -/
theorem ListItem.bytes_of_fits (i : ListItem) {t : Text} {shown : Nat} (h : t.positions.length ≤ shown) :
    i.bytes t shown = i.bytes t t.positions.length := by
  rw [ListItem.bytes, ListItem.bytes, List.take_of_length_le h, List.take_length]

section

variable {room : Nat} {i : ListItem} {rest : List ListItem}

theorem packItems_of_fields (ht : i.text = none) (h : i.fields.length ≤ room) :
    packItems room (i :: rest) = i.fields :: packItems (room - i.fields.length) rest := by
  rw [packItems]
  simp only [ht, if_pos h]

theorem packItems_of_fields_over (ht : i.text = none) (h : ¬ i.fields.length ≤ room) :
    packItems room (i :: rest) = [] := by
  rw [packItems]
  simp only [ht, if_neg h]

theorem packItems_of_text {t : Text} (ht : i.text = some t)
    (h : i.fields.length + 2 + t.positions.length ≤ room) :
    packItems room (i :: rest)
      = i.bytes t t.positions.length :: packItems (room - (i.bytes t t.positions.length).length) rest := by
  have hfits : t.positions.length ≤ room - (i.fields.length + 2) := by omega
  rw [packItems]
  simp only [ht, if_pos (Nat.le_of_add_right_le h), if_neg (Nat.not_lt.2 hfits), i.bytes_of_fits hfits]

theorem packItems_of_text_cut {t : Text} (ht : i.text = some t) (h : i.fields.length + 2 ≤ room)
    (hc : room < i.fields.length + 2 + t.positions.length) :
    packItems room (i :: rest) = [i.bytes t (room - (i.fields.length + 2))] := by
  have hcut : room - (i.fields.length + 2) < t.positions.length := by omega
  rw [packItems]
  simp only [ht, if_pos h, if_pos hcut]

theorem packItems_of_text_over {t : Text} (ht : i.text = some t) (h : ¬ i.fields.length + 2 ≤ room) :
    packItems room (i :: rest) = [] := by
  rw [packItems]
  simp only [ht, if_neg h]

end

/-- The items shown fit the room. -/
theorem packItems_length_le (items : List ListItem) :
    ∀ room, (packItems room items).flatten.length ≤ room := by
  induction items with
  | nil => exact fun room => Nat.zero_le room
  | cons i rest ih =>
    intro room
    cases ht : i.text with
    | none =>
      by_cases h : i.fields.length ≤ room
      · have := ih (room - i.fields.length)
        rw [packItems_of_fields ht h, List.flatten_cons, List.length_append]
        omega
      · rw [packItems_of_fields_over ht h]
        exact Nat.zero_le room
    | some t =>
      have hl := i.bytes_length t
      by_cases h : i.fields.length + 2 + t.positions.length ≤ room
      · have := ih (room - (i.bytes t t.positions.length).length)
        rw [packItems_of_text ht h, List.flatten_cons, List.length_append]
        have := hl t.positions.length
        omega
      · by_cases h2 : i.fields.length + 2 ≤ room
        · rw [packItems_of_text_cut ht h2 (Nat.lt_of_not_le h), List.flatten_singleton, hl]
          omega
        · rw [packItems_of_text_over ht h2]
          exact Nat.zero_le room

/-- Items that fit together are all shown, each whole. -/
theorem packItems_of_fits (items : List ListItem) :
    ∀ room, (items.map ListItem.whole).flatten.length ≤ room →
      packItems room items = items.map ListItem.whole := by
  induction items with
  | nil => exact fun _ _ => rfl
  | cons i rest ih =>
    intro room h
    rw [List.map_cons, List.flatten_cons, List.length_append] at h
    cases ht : i.text with
    | none =>
      have hw : i.whole = i.fields := by rw [ListItem.whole, ht]
      rw [hw] at h
      rw [packItems_of_fields ht (by omega), ih _ (by omega), List.map_cons, hw]
    | some t =>
      have hw : i.whole = i.bytes t t.positions.length := by rw [ListItem.whole, ht]
      rw [hw] at h
      have hl := i.bytes_length t t.positions.length
      rw [packItems_of_text ht (by omega), ih _ (by omega), List.map_cons, hw]

theorem listFields_length_le {counts : List (List Byte)} (items : List ListItem)
    (h : counts.flatten.length ≤ 59) : (listFields items counts).flatten.length ≤ 61 := by
  have hp : (packItems (Config.resultMax - 2 - counts.flatten.length) items).flatten.length
      ≤ 61 - 2 - counts.flatten.length := packItems_length_le items _
  simp only [listFields, List.flatten_append, List.flatten_cons, List.flatten_nil, List.length_append, be_length,
    List.cons_append, List.length_nil]
  omega

theorem listFields_of_fits {items : List ListItem} {counts : List (List Byte)}
    (h : 2 + counts.flatten.length + (items.map ListItem.whole).flatten.length ≤ 61) :
    listFields items counts
      = be 1 items.length :: counts ++ [be 1 items.length] ++ items.map ListItem.whole := by
  have hp : packItems (Config.resultMax - 2 - counts.flatten.length) items = items.map ListItem.whole := by
    refine packItems_of_fits items _ ?_
    show _ ≤ 61 - 2 - counts.flatten.length
    omega
  rw [listFields, hp, List.length_map]

/-! ## A read -/

/-- The state at a command's stamp is the state with the timer at some instant, every other field as it was. -/
theorem State.exists_advanceTo_eq (s : State) (t : Stamp) : ∃ m, s.advanceTo t = s.setMs m := by
  rw [State.advanceTo]
  split
  · exact ⟨t, rfl⟩
  · exact ⟨s.ms, rfl⟩

theorem exec_of_read {i : Instr} {s q : State} {t : Stamp} (h : s.takes) (hq : s.advanceTo t = q)
    {act : State → Answer} (he : exec i s = .next (s.request t 0x0D act)) {code : RespCode}
    {fields : List (List Byte)} (ha : act q.toHunt = { state := q.toHunt, code := code, fields := fields }) :
    exec i s = .next (q.replied 0x0D code fields) := by
  subst hq
  exact exec_of_request h he ha

/-- A byte as a one-byte number. -/
theorem be_one_toNat (b : Byte) : be 1 b.toNat = [b] := by
  rw [be, be, pow_zero, Nat.div_one, BitVec.ofNat_toNat, BitVec.setWidth_eq]

theorem Trip.flags_eq (p : Trip) :
    p.flags = [p.limit, p.clamp, p.resumed].foldr (fun (b : Bool) (n : Nat) => 2 * n + if b then 1 else 0) 0 := by
  rw [Trip.flags]
  cases p.limit <;> cases p.clamp <;> cases p.resumed <;> rfl

theorem TripRecord.flags_eq (r : TripRecord) :
    r.flags
      = [r.limit, r.clamp, r.resumed, r.power].foldr (fun (b : Bool) (n : Nat) => 2 * n + if b then 1 else 0) 0 := by
  rw [TripRecord.flags]
  cases r.limit <;> cases r.clamp <;> cases r.resumed <;> cases r.power <;> rfl

theorem Trips.unreported_length (t : Trips) :
    t.unreported.length = (t.log.filterMap id).countP (fun h => !h.reported) :=
  List.countP_eq_length_filter.symm

/-- A text read with its first position as the request gave it. -/
theorem textFields_eq (number : Nat) (first : Byte) (x : Text) :
    textFields number first.toNat x
      = [be 2 number, [first], be 1 ((x.positions.drop first.toNat).take 55).length, be 1 x.positions.length,
        [flagByte x.truncated],
        ((x.positions.drop first.toNat).take 55).map
          (fun p => BitVec.ofNat 8 (p.char.toNat + if p.emphasis then 128 else 0))] := by
  rw [textFields, be_one_toNat]
  rfl

theorem State.thresholdInForce_eq (q : State) (p : Trip) :
    q.thresholdInForce p
      = (q.tariff p.tariff).elim 0
          (fun T => if p.threshold = .first then T.firstStep * (T.distance * T.time) else T.distance * T.time) := by
  rw [State.thresholdInForce]
  cases q.tariff p.tariff with
  | none => rfl
  | some T => exact T.threshold_eq p.threshold

theorem State.tripFields_eq {s : State} {p : Trip} (h : s.meter.trip = some p) :
    s.tripFields p
      = [optional 2 p.job, be 2 p.shift, optionalStamp p.start, be 1 p.tariff, be 1 p.firstTariff,
         be 1 p.lastTariff, be 4 p.progress, be 1 p.threshold.code, be 4 p.drops, be 3 p.fare,
         be 3 p.extras, (p.extrasCounts.map (be 1)).flatten, be 3 p.surcharge, optional 3 p.price,
         optional 3 p.account, be 4 p.seconds, be 4 p.metres, [flagByte p.part], optional 6 p.stopStamp,
         be 1 ([p.limit, p.clamp, p.resumed].foldr (fun (b : Bool) (n : Nat) => 2 * n + if b then 1 else 0) 0),
         be 4 (s.thresholdInForce p), be 3 p.charged,
         be 3
          (if s.meter.mode = .stopped then s.leftDown (p.stopStamp.getD 0 + 1000 * s.resumeGrace) else 0)] := by
  rw [State.tripFields, Trip.flags_eq, State.resumeLeft, State.resumeLimit, h]
  rfl


/-! ## The records by number -/

section

variable {q : State} {number first : Nat}

theorem State.readOfferText_of_none (hf : first ≤ 79) (h : q.offers.find number = none) :
    q.readOfferText number first = q.refuse .state := by
  rw [State.readOfferText, if_neg (Nat.not_lt.2 hf), h]

theorem State.readOfferText_of_some (hf : first ≤ 79) {e : OfferEntry} (h : q.offers.find number = some e) :
    q.readOfferText number first = q.doneWith (textFields number first e.summary) := by
  rw [State.readOfferText, if_neg (Nat.not_lt.2 hf), h]

theorem State.readJobText_of_none (hf : first ≤ 119) (h : q.jobs.jobs.find? (fun j => j.number == number) = none) :
    q.readJobText number first = q.refuse .state := by
  rw [State.readJobText, if_neg (Nat.not_lt.2 hf), h]

theorem State.readJobText_of_some (hf : first ≤ 119) {j : Job}
    (h : q.jobs.jobs.find? (fun j => j.number == number) = some j) :
    q.readJobText number first = q.doneWith (textFields number first j.text) := by
  rw [State.readJobText, if_neg (Nat.not_lt.2 hf), h]

theorem State.readMessageText_of_none (hf : first ≤ 239) (h : q.msgs.find number = none) :
    q.readMessageText number first = q.refuse .state := by
  rw [State.readMessageText, if_neg (Nat.not_lt.2 hf), h]

theorem State.readMessageText_of_some (hf : first ≤ 239) {x : Message} (h : q.msgs.find number = some x) :
    q.readMessageText number first = q.doneWith (textFields number first x.text) := by
  rw [State.readMessageText, if_neg (Nat.not_lt.2 hf), h]

theorem State.readMessageFields_of_none (h : q.msgs.find number = none) :
    q.readMessageFields number = q.refuse .state := by
  rw [State.readMessageFields, h]

theorem State.readMessageFields_of_some {x : Message} (h : q.msgs.find number = some x) :
    q.readMessageFields number = q.doneWith (x.fields :: byteList ((q.replyPhrases x).map (be 1))) := by
  rw [State.readMessageFields, h]

theorem State.readMessagePhrase_of_out {phrase : Nat} (h : phrase < 96 ∨ 127 < phrase) :
    q.readMessagePhrase number phrase = q.refuse .argument := by
  have hd : (!isDriverPhrase phrase) = true := by
    simp only [isDriverPhrase, Bool.not_eq_true', Bool.and_eq_false_iff, decide_eq_false_iff_not]
    omega
  rw [State.readMessagePhrase, if_pos hd]

theorem State.readMessagePhrase_of_in {phrase : Nat} (hlo : 96 ≤ phrase) (hhi : phrase ≤ 127) :
    q.readMessagePhrase number phrase
      = if (q.msgs.find number).isSome then
          q.doneWith (byteList ((q.driverPhrase phrase).map (fun c => [c.setWidth 8])))
        else q.refuse .state := by
  have hd : ¬ (!isDriverPhrase phrase) = true := by simp [isDriverPhrase, hlo, hhi]
  rw [State.readMessagePhrase, if_neg hd]

theorem State.readMeter_of_none (h : q.meter.trip = none) :
    q.readMeter = q.doneWith (be 1 q.meter.mode.code :: q.bankFields) := by
  rw [State.readMeter, h]
  rfl

theorem State.readMeter_of_some {p : Trip} (h : q.meter.trip = some p) :
    q.readMeter = q.doneWith (be 1 q.meter.mode.code :: q.tripFields p ++ q.bankFields) := by
  rw [State.readMeter, h]

theorem State.readTrip_of_none (h : q.trips.named number = none) : q.readTrip number = q.refuse .state := by
  rw [State.readTrip, h]

theorem State.readTrip_of_some {r : HeldTrip} (h : q.trips.named number = some r) :
    q.readTrip number = q.doneWith (q.tripRecordFields r) := by
  rw [State.readTrip, h]

theorem State.readShift_of_none (hn : number ≤ 1) (h : q.trips.selected number = none) :
    q.readShift number = q.refuse .state := by
  rw [State.readShift, if_neg (Nat.not_lt.2 hn), h]

theorem State.readShift_of_some (hn : number ≤ 1) {r : ShiftRecord} (h : q.trips.selected number = some r) :
    q.readShift number = q.doneWith (q.shiftFields r) := by
  rw [State.readShift, if_neg (Nat.not_lt.2 hn), h]

theorem Trips.selected_toNat (l : Trips) (which : Byte) :
    l.selected which.toNat = if which = 0 then l.current else l.previous :=
  if_congr (by rw [← BitVec.toNat_inj]; rfl) rfl rfl

theorem State.readEmergency_of_hidden {q : State}
    (h : q.emu.state = .quiet ∨ (q.emu.inCall = true ∧ q.emu.covert = true)) :
    q.readEmergency = q.doneWith [[0]] := by
  rw [State.readEmergency]
  rcases h with hq | ⟨hcall, hc⟩
  · rw [hq]
    rfl
  · rcases Emergency.inCall_iff.1 hcall with he | he <;> rw [he] <;> exact if_pos hc

theorem State.readEmergency_of_arming {q : State} (h : q.emu.state = .arming) :
    q.readEmergency = q.doneWith [[1], be 3 (q.leftUp (q.emu.grace.getD 0))] := by
  rw [State.readEmergency, h]
  rfl

theorem State.readEmergency_of_overt {q : State} (hcall : q.emu.inCall = true) (hc : q.emu.covert = false) :
    q.readEmergency = q.doneWith q.callFields := by
  have hn : ¬ q.emu.covert = true := by rw [hc]; exact Bool.false_ne_true
  rw [State.readEmergency]
  rcases Emergency.inCall_iff.1 hcall with he | he <;> rw [he] <;> exact if_neg hn

end

end Sys2Proof.Machine

section

open Sys2Proof Sys2Proof.Machine

/-- Settles O52: a request taken is answered by its owner's result on the part as the request finds it, and each
read's result is its record's fields; a list is packed item by item into the room its counts leave. -/
theorem readsReturnTheirRecords : Obligations.ReadsReturnTheirRecords := by
  unfold Obligations.ReadsReturnTheirRecords
  refine ⟨fun items counts hcounts => ?_, fun s t h => ?_⟩
  · intro whole
    refine ⟨listFields_length_le items hcounts, fun h => ?_⟩
    have hwhole : whole = ListItem.whole := by
      funext i
      rcases i with ⟨fields, _ | x⟩
      · exact List.append_nil fields
      · simp only [whole, ListItem.whole, ListItem.bytes, List.take_length, List.append_assoc]
        rfl
    rw [hwhole] at h ⊢
    exact listFields_of_fits h
  obtain ⟨m, hq⟩ := s.exists_advanceTo_eq t
  let q := (s.setMs m).toHunt
  rw [hq]
  intro s0 stamp left leftUp bits offerItem jobItem message banks threshold grace trip record shift is text
    current jobs
  refine ⟨exec_of_read h hq rfl ?_, exec_of_read h hq rfl ?_, exec_of_read h hq rfl ?_,
    fun n first hf => exec_of_read h hq rfl (if_pos hf),
    fun n first hf => ⟨fun hn => exec_of_read h hq rfl (State.readOfferText_of_none (q := q) hf hn),
      fun e he => exec_of_read h hq rfl ((State.readOfferText_of_some (q := q) hf he).trans ?_)⟩,
    fun n first hf => exec_of_read h hq rfl (if_pos hf),
    fun n first hf => ⟨fun hn => exec_of_read h hq rfl (State.readJobText_of_none (q := q) hf hn),
      fun j hj => exec_of_read h hq rfl ((State.readJobText_of_some (q := q) hf hj).trans ?_)⟩,
    fun n first hf => exec_of_read h hq rfl (if_pos hf),
    fun n first hf => ⟨fun hn => exec_of_read h hq rfl (State.readMessageText_of_none (q := q) hf hn),
      fun x hx => exec_of_read h hq rfl ((State.readMessageText_of_some (q := q) hf hx).trans ?_)⟩,
    fun n => ⟨fun hn => exec_of_read h hq rfl (State.readMessageFields_of_none (q := q) hn), fun x hx =>
      exec_of_read h hq rfl ((State.readMessageFields_of_some (q := q) hx).trans ?_)⟩,
    fun n phrase => ⟨fun hout => exec_of_read h hq rfl (State.readMessagePhrase_of_out (q := q) hout),
      fun hlo hhi hn => exec_of_read h hq rfl ((State.readMessagePhrase_of_in (q := q) hlo hhi).trans (if_neg ?_)),
      fun hlo hhi hn => exec_of_read h hq rfl ((State.readMessagePhrase_of_in (q := q) hlo hhi).trans (if_pos ?_))⟩,
    fun hn => exec_of_read h hq rfl ((State.readMeter_of_none (q := q) hn).trans ?_),
    fun p hp => exec_of_read h hq rfl ((State.readMeter_of_some (q := q) hp).trans ?_),
    fun n => ⟨fun hn => exec_of_read h hq rfl (State.readTrip_of_none (q := q) hn), fun r hr =>
      exec_of_read h hq rfl ((State.readTrip_of_some (q := q) hr).trans ?_)⟩,
    fun which => ⟨fun hw => exec_of_read h hq rfl (if_pos hw), fun hw hn =>
        exec_of_read h hq rfl (State.readShift_of_none (q := q) hw
          ((Trips.selected_toNat s.trips which).trans hn)),
      fun r hw hr => exec_of_read h hq rfl
        ((State.readShift_of_some (q := q) hw ((Trips.selected_toNat s.trips which).trans hr)).trans ?_)⟩,
    exec_of_read h hq rfl ?_,
    fun hhidden => exec_of_read h hq rfl (State.readEmergency_of_hidden (q := q) hhidden),
    fun harming => exec_of_read h hq rfl (State.readEmergency_of_arming (q := q) harming),
    fun hcall hc => exec_of_read h hq rfl (State.readEmergency_of_overt (q := q) hcall hc),
    exec_of_read h hq rfl rfl⟩
  · rfl
  · rfl
  · rfl
  · exact congrArg (State.doneWith _) (textFields_eq n.toNat first e.summary)
  · exact congrArg (State.doneWith _) (textFields_eq n.toNat first j.text)
  · exact congrArg (State.doneWith _) (textFields_eq n.toNat first x.text)
  · rfl
  · rw [show (s.setMs m).toHunt.msgs.find n.toNat = none from hn]
    exact Bool.false_ne_true
  · exact Option.isSome_iff_ne_none.2 hn
  · rfl
  · have hthreshold : (s.setMs m).toHunt.thresholdInForce p = threshold p := by
      refine (State.thresholdInForce_eq _ p).trans ?_
      change (s.tariff p.tariff).elim _ _ = threshold p
      simp only [threshold]
      cases s.tariff p.tariff <;> rfl
    rw [State.tripFields_eq (s := (s.setMs m).toHunt) hp, hthreshold]
    rfl
  · rw [State.tripRecordFields, TripRecord.flags_eq, Trips.unreported_length]
    rfl
  · rfl
  · rfl

end
end

section
/-!
PROOFS. Frame assembly (R201, R202).
-/

namespace Sys2Proof.Machine

/-! ## The state at an event -/

section

variable {i : Instr} {s q : State} {t : Stamp}

theorem exec_of_event_at (hv : s.vdd = true) (hq : s.advanceTo t = q) {f : State → State}
    (he : exec i s = .next (s.event t f)) {r : State} (hr : f q = r) : exec i s = .next r := by
  rw [exec_of_event hv he, hq, hr]

theorem State.advanceTo_of_lt (s : State) (h : s.ms < t) : s.advanceTo t = s.setMs t := if_pos h

theorem State.advanceTo_of_not_lt (s : State) (h : ¬ s.ms < t) : s.advanceTo t = s := if_neg h

/-- The level of CALEN does not touch the timer. -/
theorem State.advanceTo_setCalen (s : State) (t : Stamp) (calen : Bool) :
    (s.setCalen calen).advanceTo t = (s.advanceTo t).setCalen calen := by
  by_cases h : s.ms < t
  · rw [s.advanceTo_of_lt h]
    exact if_pos h
  · rw [s.advanceTo_of_not_lt h]
    exact if_neg h

theorem exec_cabByte (hv : s.vdd = true) (hq : s.advanceTo t = q) (calen : Bool) (b : Byte) :
    exec (.cabPortByteReceived t calen b) s = .next ((q.setCalen calen).cabByte b) :=
  exec_of_event_at hv hq rfl rfl

/-- A byte that does what an event does is that event, the level of CALEN having come with it. -/
theorem exec_cabByte_as (hv : s.vdd = true) (hq : s.advanceTo t = q) {calen : Bool} {b : Byte}
    {f : State → State} (he : exec i (s.setCalen calen) = .next ((s.setCalen calen).event t f))
    (hr : (q.setCalen calen).cabByte b = f (q.setCalen calen)) :
    exec (.cabPortByteReceived t calen b) s = exec i (s.setCalen calen) := by
  have hq' : (s.setCalen calen).advanceTo t = q.setCalen calen :=
    (s.advanceTo_setCalen t calen).trans (congrArg (State.setCalen · calen) hq)
  rw [exec_cabByte hv hq, hr, exec_of_event_at (s := s.setCalen calen) hv hq' he rfl]

end

/-! ## A frame refused (R202) -/

theorem CabPort.begin_assembly (c : CabPort) (f : OutFrame) : (c.begin f).assembly = c.assembly := by
  cases f <;> rfl

theorem CabPort.pump_assembly (c : CabPort) : c.pump.assembly = c.assembly := by
  unfold CabPort.pump
  split
  · exact CabPort.begin_assembly _ _
  · rfl

theorem State.respond_assembly (q : State) (kind : Byte) (code : RespCode) (fields : List (List Byte)) :
    (q.respond kind code fields).cab.assembly = q.cab.assembly := CabPort.pump_assembly _

section

variable {q : State} {kind : Byte} {code : RespCode}

theorem State.refuseFrame_eq (q : State) (kind : Byte) (code : RespCode) :
    q.refuseFrame kind code = if 4 ≤ q.cab.responses then q.overrun else q.respond kind code [] := rfl

theorem State.refuseFrame_setCalen (q : State) (calen : Bool) (kind : Byte) (code : RespCode) :
    (q.setCalen calen).refuseFrame kind code = (q.refuseFrame kind code).setCalen calen := by
  by_cases h : 4 ≤ q.cab.responses
  · rw [q.refuseFrame_eq, if_pos h]
    exact if_pos h
  · rw [q.refuseFrame_eq, if_neg h]
    exact if_neg h

theorem State.refuseFrame_vdd (q : State) (kind : Byte) (code : RespCode) :
    (q.refuseFrame kind code).vdd = q.vdd := by
  rw [q.refuseFrame_eq]
  split <;> rfl

theorem State.refuseFrame_ms (q : State) (kind : Byte) (code : RespCode) :
    (q.refuseFrame kind code).ms = q.ms := by
  rw [q.refuseFrame_eq]
  split <;> rfl

theorem State.refuseFrame_assembly (q : State) (kind : Byte) (code : RespCode) :
    (q.refuseFrame kind code).cab.assembly = q.cab.assembly := by
  rw [q.refuseFrame_eq]
  split
  · rfl
  · exact q.respond_assembly kind code []

end

/-! ## The 20 ms of a part-frame (R201) -/

section

variable {q : State} {last : Nat}

theorem State.assemblyTimeout_of_hunt (h : q.cab.assembly = .hunt) : q.assemblyTimeout = q := by
  rw [State.assemblyTimeout, h]

theorem State.assemblyTimeout_of_frame {got : List Byte} (h : q.cab.assembly = .frame got last) :
    q.assemblyTimeout = if last + 20 ≤ q.now then q.toHunt.refuseFrame 0 .frame else q := by
  rw [State.assemblyTimeout, h]
  exact if_congr decide_eq_true_iff rfl rfl

theorem State.assemblyTimeout_of_discard (h : q.cab.assembly = .discard last) :
    q.assemblyTimeout = if last + 20 ≤ q.now then q.toHunt else q := by
  rw [State.assemblyTimeout, h]
  exact if_congr decide_eq_true_iff rfl rfl

/-- A part-frame, or the bytes of a refused frame, are being received; `last` is when the last byte came. -/
def Assembly.open (a : Assembly) (last : Nat) : Prop := a = .discard last ∨ ∃ got, a = .frame got last

theorem State.assemblyTimeout_before (h : q.cab.assembly.open last) (hb : q.now < last + 20) :
    q.assemblyTimeout = q := by
  have hn : ¬ last + 20 ≤ q.now := Nat.not_le.2 hb
  obtain h | ⟨got, h⟩ := h
  · rw [State.assemblyTimeout_of_discard h, if_neg hn]
  · rw [State.assemblyTimeout_of_frame h, if_neg hn]

/-- After the 20 ms assembly is abandoned. -/
theorem State.assemblyTimeout_after (h : q.cab.assembly.open last) (ha : last + 20 ≤ q.now) :
    q.assemblyTimeout.cab.assembly = .hunt ∧ q.assemblyTimeout.vdd = q.vdd ∧ q.assemblyTimeout.ms = q.ms
      ∧ ∀ calen, (q.setCalen calen).assemblyTimeout = q.assemblyTimeout.setCalen calen := by
  obtain h | ⟨got, h⟩ := h
  · rw [State.assemblyTimeout_of_discard h, if_pos ha]
    refine ⟨rfl, rfl, rfl, fun calen => ?_⟩
    rw [State.assemblyTimeout_of_discard (q := q.setCalen calen) h, if_pos (show _ ≤ (q.setCalen calen).now from ha)]
    rfl
  · rw [State.assemblyTimeout_of_frame h, if_pos ha]
    refine ⟨(State.refuseFrame_assembly _ _ _).trans rfl, State.refuseFrame_vdd _ _ _, State.refuseFrame_ms _ _ _,
      fun calen => ?_⟩
    rw [State.assemblyTimeout_of_frame (q := q.setCalen calen) h, if_pos (show _ ≤ (q.setCalen calen).now from ha)]
    exact q.toHunt.refuseFrame_setCalen calen 0 .frame

/-- A byte that comes after the 20 ms finds assembly as its timeout left it. -/
theorem State.cabByte_after (h : q.cab.assembly.open last) (ha : last + 20 ≤ q.now) (calen : Bool) (b : Byte) :
    (q.setCalen calen).cabByte b = (q.assemblyTimeout.setCalen calen).cabByte b := by
  obtain ⟨hhunt, -, -, hcalen⟩ := State.assemblyTimeout_after h ha
  rw [State.cabByte, State.cabByte, hcalen,
    State.assemblyTimeout_of_hunt (q := q.assemblyTimeout.setCalen calen) hhunt]

end

/-! ## A byte (R201) -/

section

variable {q : State} {last : Nat} {b : Byte}

theorem State.setAssembly_of_eq {a : Assembly} (h : q.cab.assembly = a) : q.setAssembly a = q := by
  subst h
  rfl

theorem State.cabByte_of_hunt (h : q.cab.assembly = .hunt) (b : Byte) :
    q.cabByte b = q.setAssembly (if b = 0x7E then .frame [] q.now else .hunt) := by
  have hb : q.cabByte b = if b = 0x7E then q.setAssembly (.frame [] q.now) else q := by
    rw [State.cabByte, State.assemblyTimeout_of_hunt h, State.assembleByte, h]
  rw [hb, apply_ite q.setAssembly, State.setAssembly_of_eq h]

theorem State.cabByte_of_discard (h : q.cab.assembly = .discard last) (hb : q.now < last + 20) (b : Byte) :
    q.cabByte b = q.setAssembly (.discard q.now) := by
  rw [State.cabByte, State.assemblyTimeout_before (.inl h) hb, State.assembleByte, h]

theorem State.cabByte_of_length (h : q.cab.assembly = .frame [] last) (hb : q.now < last + 20) (b : Byte) :
    q.cabByte b = if b.toNat ≤ 64 then q.setAssembly (.frame [b] q.now) else q.refuseLength := by
  rw [State.cabByte, State.assemblyTimeout_before (.inr ⟨_, h⟩) hb, State.assembleByte, h]
  by_cases hl : b.toNat ≤ 64
  · have hn : ¬ (([] : List Byte) = [] ∧ Config.frameBodyMax < b.toNat) := fun hc => Nat.not_lt.2 hl hc.2
    rw [if_pos hl]
    refine (if_neg hn).trans (if_neg ?_)
    exact nofun
  · rw [if_neg hl]
    exact if_pos ⟨rfl, Nat.lt_of_not_le hl⟩

theorem State.cabByte_of_frame {n : Byte} {got : List Byte} (h : q.cab.assembly = .frame (n :: got) last)
    (hb : q.now < last + 20) (b : Byte) :
    q.cabByte b
      = if got.length = n.toNat + 1 then q.takeFrame (n :: got ++ [b])
        else q.setAssembly (.frame (n :: got ++ [b]) q.now) := by
  have hn : ¬ (n :: got = [] ∧ Config.frameBodyMax < b.toNat) := fun hc => List.cons_ne_nil n got hc.1
  have hlength : natAt (n :: got ++ [b]) 0 1 = n.toNat := natAt_one _ _
  rw [State.cabByte, State.assemblyTimeout_before (.inr ⟨_, h⟩) hb, State.assembleByte, h]
  refine (if_neg hn).trans (if_congr ?_ rfl rfl)
  rw [hlength, List.length_cons]
  omega

/-- A complete frame, its body standing behind length and kind and before the check byte. -/
theorem State.takeFrame_eq (q : State) (n kind : Byte) (body : List Byte) (b : Byte) :
    q.takeFrame (n :: kind :: body ++ [b])
      = if ¬ (n :: kind :: body ++ [b]).foldl (· + ·) 0 = 0 then q.refuseAt .check
        else if isRequestKind kind = false then q.toHunt.refuseFrame kind .unknown
        else if suits kind.toNat body.length = false then q.refuseAt (.bodyLength kind)
        else q.toHunt.answer kind (fun s => s.serve kind.toNat body) := by
  have hbody : ((n :: kind :: body ++ [b]).drop 2).dropLast = body := List.dropLast_concat
  rw [State.takeFrame, hbody]
  refine if_congr ?_ rfl (if_congr ?_ rfl (if_congr ?_ rfl rfl))
  · rw [checkHolds, Bool.not_eq_true', beq_eq_false_iff_ne]
  · rw [Bool.not_eq_true']
    rfl
  · rw [Bool.not_eq_true']
    rfl

end

/-! ## A READ frame that names no record (R207) -/

theorem State.read_of_unnamed {q : State} {body : List Byte}
    (h : ((byteAt body 0).toNat, body.length) ∉
        [(0, 1), (0, 4), (1, 1), (1, 4), (2, 1), (3, 5), (4, 2), (5, 1), (6, 5), (7, 1), (8, 1), (9, 1)]
      ∨ ((byteAt body 0).toNat = 6 ∧ 2 < (byteAt body 3).toNat)) :
    q.read body = q.refuse .argument := by
  rw [State.read, natAt_one, natAt_one]
  generalize (byteAt body 0).toNat = selector at h ⊢
  generalize body.length = length at h ⊢
  generalize (byteAt body 3).toNat = item at h ⊢
  split
  case h_9 =>
    obtain h | ⟨-, h⟩ := h
    · exact absurd (by decide) h
    · obtain ⟨k, rfl⟩ := Nat.exists_eq_add_of_le' h
      rfl
  case h_13 => rfl
  all_goals exact h.elim (fun hn => absurd (by decide) hn) fun hs => absurd hs.1 (by decide)

theorem State.read_fields {q : State} {body : List Byte} (hl : body.length = 5) (hs : (byteAt body 0).toNat = 6)
    (hi : (byteAt body 3).toNat = 0) : q.read body = q.readMessageFields (natAt body 1 2) := by
  rw [State.read, natAt_one, natAt_one, hs, hl, hi]
  rfl

/-- A READ frame of a good length that names no record is refused as any frame is. -/
theorem State.answer_read_of_unnamed {q : State} {body : List Byte}
    (h : ((byteAt body 0).toNat, body.length) ∉
        [(0, 1), (0, 4), (1, 1), (1, 4), (2, 1), (3, 5), (4, 2), (5, 1), (6, 5), (7, 1), (8, 1), (9, 1)]
      ∨ ((byteAt body 0).toNat = 6 ∧ 2 < (byteAt body 3).toNat)) :
    q.answer 0x0D (fun s => s.serve 0x0D body) = q.refuseFrame 0x0D .argument := by
  have hserve : q.serve 0x0D body = q.refuse .argument := State.read_of_unnamed h
  rw [State.answer, hserve]
  rfl

theorem State.answer_read_fields {q : State} {body : List Byte} (hl : body.length = 5)
    (hs : (byteAt body 0).toNat = 6) (hi : (byteAt body 3).toNat = 0) :
    q.answer 0x0D (fun s => s.serve 0x0D body)
      = q.answer 0x0D (fun s => s.readMessageFields (BitVec.ofNat 16 (natAt body 1 2)).toNat) := by
  have hnumber : (BitVec.ofNat 16 (natAt body 1 2)).toNat = natAt body 1 2 :=
    BitVec.toNat_ofNat _ _ ▸ Nat.mod_eq_of_lt (natAt_lt body 1 2)
  have hserve : ∀ s : State, s.serve 0x0D body = s.readMessageFields (natAt body 1 2) :=
    fun s => State.read_fields hl hs hi
  simp only [hserve, hnumber]

/-- A READ frame's body has 1 to 5 bytes. -/
theorem State.takeFrame_read {q : State} {n b : Byte} {body : List Byte}
    (hgood : (n :: 0x0D :: body ++ [b]).foldl (· + ·) 0 = 0) (hlo : 1 ≤ body.length) (hhi : body.length ≤ 5) :
    q.takeFrame (n :: 0x0D :: body ++ [b]) = q.toHunt.answer 0x0D (fun s => s.serve 0x0D body) := by
  have hsuits : ¬ suits 0x0D body.length = false := by
    simp [suits, requestBounds, hlo, hhi]
  rw [State.takeFrame_eq, if_neg (not_not_intro hgood)]
  exact (if_neg (by decide)).trans (if_neg hsuits)

theorem suits_eq_false {kind length : Nat} (h : length < (requestBounds kind).1 ∨ (requestBounds kind).2 < length) :
    suits kind length = false := by
  simp only [suits, Bool.and_eq_false_iff, decide_eq_false_iff_not]
  omega

end Sys2Proof.Machine

section

open Sys2Proof Sys2Proof.Machine

/-- Settles O50: a refusal is an answer with no owner; what a byte does is told by the assembly state it finds, the
part-frame's last byte by the tests of `takeFrame` in order. -/
theorem frameAssembly : Obligations.FrameAssembly := by
  unfold Obligations.FrameAssembly
  intro s t hv
  obtain ⟨m, hq⟩ := s.exists_advanceTo_eq t
  rw [hq]
  let q := s.setMs m
  intro s0 refused
  refine ⟨fun kind => exec_of_event_at hv hq rfl rfl, fun n => exec_of_event_at hv hq rfl rfl,
    exec_of_event_at hv hq rfl rfl, fun kind => exec_of_event_at hv hq rfl rfl,
    fun h => exec_of_event_at hv hq rfl (State.assemblyTimeout_of_hunt h),
    fun got last h => exec_of_event_at hv hq rfl (State.assemblyTimeout_of_frame h),
    fun last h => exec_of_event_at hv hq rfl (State.assemblyTimeout_of_discard h), fun calen b => ?_⟩
  intro become as
  have hbyte := exec_cabByte hv hq calen b
  have hbecome : ∀ a, (q.setCalen calen).cabByte b = (q.setCalen calen).setAssembly a → become a :=
    fun a ha => hbyte.trans (congrArg Host.Outcome.next ha)
  refine ⟨fun h => hbecome _ (State.cabByte_of_hunt (q := q.setCalen calen) h b), fun last h ha => ?_,
    fun last h hb => hbecome _ (State.cabByte_of_discard (q := q.setCalen calen) h hb b),
    fun last h hb => ⟨fun hl => hbecome _ ?_, fun hl => exec_cabByte_as hv hq rfl ?_⟩, fun n got last h hb => ?_⟩
  · obtain ⟨hhunt, hvdd, hms, -⟩ := State.assemblyTimeout_after (q := q) h ha
    have hstands : q.assemblyTimeout.advanceTo t = q.assemblyTimeout :=
      State.advanceTo_of_ms (hms.trans (congrArg State.ms hq).symm)
    refine ⟨q.assemblyTimeout, exec_of_event_at hv hq rfl rfl, hhunt, ?_⟩
    rw [hbyte, exec_cabByte (hvdd.trans hv) hstands]
    exact congrArg Host.Outcome.next (State.cabByte_after (q := q) h ha calen b)
  · rw [State.cabByte_of_length (q := q.setCalen calen) h hb, if_pos hl]
    rfl
  · rw [State.cabByte_of_length (q := q.setCalen calen) h hb, if_neg (Nat.not_le.2 hl)]
    rfl
  · have hgoes : ∀ {r}, got.length ≠ n.toNat + 1 →
        r = (q.setCalen calen).setAssembly (.frame (n :: got ++ [b]) q.now) → (q.setCalen calen).cabByte b = r := by
      rintro _ hl rfl
      rw [State.cabByte_of_frame (q := q.setCalen calen) h hb, if_neg hl]
      rfl
    have htake : got.length = n.toNat + 1 →
        (q.setCalen calen).cabByte b = (q.setCalen calen).takeFrame (n :: got ++ [b]) := fun hl => by
      rw [State.cabByte_of_frame (q := q.setCalen calen) h hb, if_pos hl]
    cases got with
    | nil =>
      have hnil : ([] : List Byte).length ≠ n.toNat + 1 := (Nat.succ_ne_zero _).symm
      exact ⟨fun hl => hbecome _ (hgoes hl rfl), fun hl => absurd hl hnil, fun hl => absurd hl hnil,
        fun hl => absurd hl hnil, fun hl => absurd hl hnil, fun hl => absurd hl hnil⟩
    | cons kind body =>
      have htaken := fun hl => (htake hl).trans ((q.setCalen calen).takeFrame_eq n kind body b)
      refine ⟨fun hl => hbecome _ (hgoes hl rfl), fun hl hbad => exec_cabByte_as hv hq rfl ?_,
        fun hl hgood hk => exec_cabByte_as hv hq rfl ?_,
        fun hl hgood hk hlength => exec_cabByte_as hv hq rfl ?_,
        fun hl hgood hk hlo hhi hun => hbyte.trans (congrArg Host.Outcome.next ?_),
        fun hl hgood hk hlength hsel hitem => exec_cabByte_as hv hq rfl ?_⟩
      · exact (htaken hl).trans (if_pos hbad)
      · exact (htaken hl).trans ((if_neg (not_not_intro hgood)).trans (if_pos hk))
      · have hknown : ¬ isRequestKind kind = false := by
          rw [show isRequestKind kind = true from hk]
          exact Bool.noConfusion
        exact (htaken hl).trans ((if_neg (not_not_intro hgood)).trans ((if_neg hknown).trans
          (if_pos (suits_eq_false hlength))))
      · obtain rfl : kind = 0x0D := hk
        rw [htake hl, State.takeFrame_read hgood hlo hhi]
        exact (State.answer_read_of_unnamed hun).trans (q.toHunt.refuseFrame_setCalen calen 0x0D .argument)
      · obtain rfl : kind = 0x0D := hk
        have hfive : body.length = 5 := hlength
        rw [htake hl, State.takeFrame_read hgood (hfive ▸ by decide) hfive.le]
        exact State.answer_read_fields hfive hsel hitem

end
end

section
/-!
PROOFS. A request and its frame (R201, R203, section 13.4).
-/

namespace Sys2Proof.Machine

/-! ## The numbers a body spells -/

theorem nat_be_four {n : Nat} (h : n < 4294967296) : nat (be 4 n) = n := by
  simp only [be, nat, List.foldl_cons, List.foldl_nil, BitVec.toNat_ofNat]
  omega

/-- A two-byte number at the front of a body. -/
theorem natAt_be_two (n : Half) (rest : List Byte) : natAt (be 2 n.toNat ++ rest) 0 2 = n.toNat :=
  nat_be_two n.isLt

/-- A two-byte number at the front of a body, read as two bytes again. -/
theorem ofNat_natAt_be_two (n : Half) (rest : List Byte) :
    BitVec.ofNat 16 (natAt (be 2 n.toNat ++ rest) 0 2) = n := by
  rw [natAt_be_two, BitVec.ofNat_toNat, BitVec.setWidth_eq]

theorem loadOpenArg_be (arg : LoadOpenArg) : loadOpenArg (arg.kind :: be 2 arg.version.toNat) = arg := by
  have hversion : BitVec.ofNat 16 (natAt (arg.kind :: be 2 arg.version.toNat) 1 2) = arg.version :=
    ofNat_natAt_be_two arg.version []
  rw [loadOpenArg, hversion]
  rfl

theorem loadDataArg_be (arg : LoadDataArg) : loadDataArg (be 2 arg.offset.toNat ++ arg.data) = arg := by
  rw [loadDataArg, ofNat_natAt_be_two]
  rfl

/-! ## The owner of a request takes its frame's body -/

/-- A request is what the owner of its kind does with its body, behind the level of CALEN it carries. -/
def IsServed (i : Instr) : Prop :=
  ∀ kind body, i.request = some (kind, body) → ∀ t, i.stamp = some t → ∀ s,
    exec i s
      = .next (s.event t fun q =>
          (q.setCalen (i.calenLevel.getD q.calen)).toHunt.answer kind fun q => q.serve kind.toNat body)

section

variable {i : Instr} {t : Stamp} {kind : Byte} {body : List Byte} {act : State → Answer}

theorem isServed_of_other (h : i.request = none) : IsServed i :=
  fun _ _ h' => nomatch h.symm.trans h'

theorem isServed_of_request (hr : i.request = some (kind, body)) (ht : i.stamp = some t) (hc : i.calenLevel = none)
    (he : ∀ s, exec i s = .next (s.request t kind act)) (hact : ∀ q : State, q.serve kind.toNat body = act q) :
    IsServed i := by
  intro kind' body' hr' t' ht' s
  obtain ⟨rfl, rfl⟩ : kind = kind' ∧ body = body' := by simpa using hr.symm.trans hr'
  obtain rfl : t = t' := by simpa using ht.symm.trans ht'
  have hfun : (fun q : State => q.serve kind.toNat body) = act := funext hact
  rw [he, hc, hfun]
  rfl

theorem isServed_of_load {calen : Bool} (hr : i.request = some (kind, body)) (ht : i.stamp = some t)
    (hc : i.calenLevel = some calen)
    (he : ∀ s, exec i s = .next (s.event t fun s => (s.setCalen calen).toHunt.answer kind act))
    (hact : ∀ q : State, q.serve kind.toNat body = act q) : IsServed i := by
  intro kind' body' hr' t' ht' s
  obtain ⟨rfl, rfl⟩ : kind = kind' ∧ body = body' := by simpa using hr.symm.trans hr'
  obtain rfl : t = t' := by simpa using ht.symm.trans ht'
  have hfun : (fun q : State => q.serve kind.toNat body) = act := funext hact
  rw [he, hc, hfun]
  rfl

end

theorem isServed (i : Instr) : IsServed i := by
  cases i
  case loadOpen t calen port =>
    cases port with
    | air => exact isServed_of_other rfl
    | cab arg =>
      exact isServed_of_load rfl rfl rfl (fun _ => rfl) fun q => congrArg q.cabLoadOpen (loadOpenArg_be arg)
  case loadData t calen port =>
    cases port with
    | air => exact isServed_of_other rfl
    | cab arg =>
      exact isServed_of_load rfl rfl rfl (fun _ => rfl) fun q => congrArg q.cabLoadData (loadDataArg_be arg)
  case loadCommit t calen port =>
    cases port with
    | air => exact isServed_of_other rfl
    | cab check =>
      exact isServed_of_load rfl rfl rfl (fun _ => rfl) fun q =>
        congrArg q.cabLoadCommit (ofNat_natAt_be_two check [])
  case position | shiftClose | hire | stop | resume | pay | readOfferTable | readJobBook | readMeter
    | readMessageList | readLink | readEmergency | readCounters | emergencyRequest | cancel =>
    exact isServed_of_request rfl rfl rfl (fun _ => rfl) fun _ => rfl
  case accept t n =>
    exact isServed_of_request rfl rfl rfl (fun _ => rfl) fun q => congrArg q.accept (natAt_be_two n [])
  case decline t n =>
    exact isServed_of_request rfl rfl rfl (fun _ => rfl) fun q => congrArg q.decline (natAt_be_two n [])
  case arrived t n =>
    exact isServed_of_request rfl rfl rfl (fun _ => rfl) fun q => congrArg q.arrived (natAt_be_two n [])
  case noShow t n =>
    exact isServed_of_request rfl rfl rfl (fun _ => rfl) fun q => congrArg q.noShow (natAt_be_two n [])
  case shiftOpen t n =>
    exact isServed_of_request rfl rfl rfl (fun _ => rfl) fun q => congrArg q.openShift (natAt_be_two n [])
  case extra t index =>
    exact isServed_of_request rfl rfl rfl (fun _ => rfl) fun q => congrArg q.extra (natAt_one [index] 0)
  case readOfferText t n first =>
    exact isServed_of_request rfl rfl rfl (fun _ => rfl) fun q =>
      congrArg₂ q.readOfferText (natAt_be_two n [first]) (natAt_one (0 :: be 2 n.toNat ++ [first]) 3)
  case readJobText t n first =>
    exact isServed_of_request rfl rfl rfl (fun _ => rfl) fun q =>
      congrArg₂ q.readJobText (natAt_be_two n [first]) (natAt_one (1 :: be 2 n.toNat ++ [first]) 3)
  case readTrip t n =>
    exact isServed_of_request rfl rfl rfl (fun _ => rfl) fun q => congrArg q.readTrip (nat_be_four n.isLt)
  case readShift t which =>
    exact isServed_of_request rfl rfl rfl (fun _ => rfl) fun q => congrArg q.readShift (natAt_one [4, which] 1)
  case readMessageFields t n =>
    exact isServed_of_request rfl rfl rfl (fun _ => rfl) fun q =>
      congrArg q.readMessageFields (natAt_be_two n [0, 0])
  case readMessageText t n first =>
    exact isServed_of_request rfl rfl rfl (fun _ => rfl) fun q =>
      congrArg₂ q.readMessageText (natAt_be_two n [1, first]) (natAt_one (6 :: be 2 n.toNat ++ [1, first]) 4)
  case readMessagePhrase t n phrase =>
    exact isServed_of_request rfl rfl rfl (fun _ => rfl) fun q =>
      congrArg₂ q.readMessagePhrase (natAt_be_two n [2, phrase]) (natAt_one (6 :: be 2 n.toNat ++ [2, phrase]) 4)
  case markRead t n =>
    exact isServed_of_request rfl rfl rfl (fun _ => rfl) fun q => congrArg q.markRead (natAt_be_two n [])
  case reply t n phrase =>
    exact isServed_of_request rfl rfl rfl (fun _ => rfl) fun q =>
      congrArg₂ q.reply (natAt_be_two n [phrase]) (natAt_one (be 2 n.toNat ++ [phrase]) 2)
  case send t phrase =>
    exact isServed_of_request rfl rfl rfl (fun _ => rfl) fun q => congrArg q.send (natAt_one [phrase] 0)
  case noticeMask t enables =>
    exact isServed_of_request rfl rfl rfl (fun _ => rfl) fun q =>
      congrArg q.noticeMask (ofNat_natAt_be_two enables [])
  all_goals exact isServed_of_other rfl

/-- The frame of a well-formed request suits its kind. -/
theorem request_suits (i : Instr) : Laws.RequestKinds.Statement i := by
  cases i
  case loadOpen t calen port => exact Laws.RequestKinds.loadOpen t calen port
  case loadData t calen port => exact Laws.RequestKinds.loadData t calen port
  case loadCommit t calen port => exact Laws.RequestKinds.loadCommit t calen port
  case position | accept | decline | arrived | noShow | shiftOpen | shiftClose | hire | stop | resume | pay | extra
    | readOfferTable | readOfferText | readJobBook | readJobText | readMeter | readTrip | readShift
    | readMessageList | readMessageFields | readMessageText | readMessagePhrase | readLink | readEmergency
    | readCounters | markRead | reply | send | emergencyRequest | cancel | noticeMask =>
    exact Laws.RequestKinds.of_request rfl rfl rfl rfl
  all_goals exact Laws.RequestKinds.of_other rfl

/-! ## The frame's last byte -/

/-- The last byte of a good frame hands its body to the owner of its kind. -/
theorem State.cabByte_of_good {q : State} {kind : Byte} {body : List Byte} {last : Nat}
    (h : q.cab.assembly = .frame (BitVec.ofNat 8 body.length :: kind :: body) last) (hb : q.now < last + 20)
    (hknown : isRequestKind kind = true) (hlength : body.length ≤ 64)
    (hsuits : suits kind.toNat body.length = true) :
    q.cabByte (checkByte kind body) = q.toHunt.answer kind (fun q => q.serve kind.toNat body) := by
  have hcount : (kind :: body).length = (BitVec.ofNat 8 body.length).toNat + 1 := by
    rw [List.length_cons, BitVec.toNat_ofNat]
    omega
  rw [State.cabByte_of_frame h hb, if_pos hcount]
  refine (q.takeFrame_eq _ kind body _).trans ((if_neg (not_not_intro (frameBytes_sum kind body))).trans ?_)
  rw [hknown, hsuits]
  rfl

/-- The level of CALEN that came with the last byte is the one the request carries, if it carries one. -/
theorem State.setCalen_getD {q : State} {calen : Bool} {level : Option Bool}
    (h : level = none ∨ level = some calen) :
    (q.setCalen calen).setCalen (level.getD (q.setCalen calen).calen) = q.setCalen calen := by
  obtain rfl | rfl := h <;> rfl

end Sys2Proof.Machine

section

open Sys2Proof Sys2Proof.Machine

/-- Settles O51: each request's encoded body spells its operands, so what the owner of its kind does with the body is
the request, and the last byte of its frame hands the body to that owner. -/
theorem completedFrameIsItsRequest : Obligations.CompletedFrameIsItsRequest := by
  unfold Obligations.CompletedFrameIsItsRequest
  intro i s t calen kind body last hv hw ht hr hcalen ha hb
  obtain ⟨hknown, hlength, hsuits⟩ := request_suits i kind body hr hw
  have hassembly := (congrArg CabPort.assembly (s.advanceTo_cab t)).trans ha
  have hbyte := State.cabByte_of_good (q := (s.advanceTo t).setCalen calen) hassembly hb hknown hlength hsuits
  refine exec_cabByte_as hv rfl (isServed i kind body hr t ht _) (hbyte.trans ?_)
  rw [State.setCalen_getD hcalen]

end
end

section
/-!
PROOFS. A request and its RESPONSE (R203 to R205).
-/

namespace Sys2Proof.Machine

/-! ## What an owner does to the cab port -/

theorem CabPort.Noticed.refl (c : CabPort) : c.Noticed c := .of_eq rfl rfl fun _ => rfl

/-- Where nothing that was being sent ends, the moves reach the cab port by notices alone. -/
theorem State.Moves.noticed {s s' : State} (h : s.Moves False s') : s.cab.Noticed s'.cab := by
  induction h with
  | trans _ _ ih ih' => exact ih.trans ih'
  | radio h =>
    rw [h.work]
    exact .refl _
  | cab h => exact h
  | sent hdone _ => exact hdone.elim
  | _ => exact .refl _

theorem State.Acts.noticed {s s' : State} (h : s.Acts False s') : s.cab.Noticed s'.cab := by
  rcases h with h | ⟨q, q', h, hturn, h'⟩
  · exact h.noticed
  · obtain ⟨-, -, -, -, -, -, hcab⟩ := hturn.frame
    have hq' := h'.noticed
    rw [hcab] at hq'
    exact h.noticed.trans hq'

/-! ## The RESPONSE joins (R204, R205) -/

section

variable {q : State} {kind : Byte} {code : RespCode} {fields : List (List Byte)}

theorem State.respond_mark : (q.respond kind code fields).cab.overrunMark = false := CabPort.join_mark _ _

theorem State.respond_of_busy (h : q.cab.sending ≠ none) :
    (q.respond kind code fields).cab.sending = q.cab.sending
      ∧ (q.respond kind code fields).cab.waiting
        = q.cab.waiting ++ [.response kind code.byte (flagByte q.cab.overrunMark) fields.flatten] := by
  have hjoin := CabPort.join_of_busy (c := { q.cab with overrunMark := false }) h
    (.response kind code.byte (flagByte q.cab.overrunMark) fields.flatten)
  exact ⟨(congrArg CabPort.sending hjoin).trans rfl, (congrArg CabPort.waiting hjoin).trans rfl⟩

theorem State.respond_of_free (hs : q.cab.sending = none) (hw : q.cab.waiting = []) :
    (q.respond kind code fields).cab.sending
        = some (frameBytes 0x80
            ([kind, code.byte, flagByte q.cab.overrunMark] ++ fields.flatten.take 61))
      ∧ (q.respond kind code fields).cab.waiting
        = (OutFrame.response kind code.byte (flagByte q.cab.overrunMark) fields.flatten).rest := by
  have hjoin := CabPort.join_of_free (c := { q.cab with overrunMark := false }) hs hw
    (.response kind code.byte (flagByte q.cab.overrunMark) fields.flatten)
  refine ⟨(congrArg CabPort.sending hjoin).trans rfl, (congrArg CabPort.waiting hjoin).trans ?_⟩
  exact (congrArg _ hw).trans (List.append_nil _)

end

end Sys2Proof.Machine

section

open Sys2Proof Sys2Proof.Machine

/-- Settles O48: the owner of a request reaches the cab port by notices alone, and the RESPONSE joins behind them. -/
theorem eachRequestAnsweredOrOverrun : Obligations.EachRequestAnsweredOrOverrun := by
  unfold Obligations.EachRequestAnsweredOrOverrun
  intro i s t kind body hv ht hr
  obtain ⟨m, hq⟩ := s.exists_advanceTo_eq t
  let q0 := ((s.setMs m).setCalen (i.calenLevel.getD s.calen)).toHunt
  have hexec : exec i s = .next (q0.answer kind fun q => q.serve kind.toNat body) :=
    exec_of_event_at hv hq (isServed i kind body hr t ht s) rfl
  refine ⟨fun hfull => ?_, fun hroom => ?_⟩
  · have hover : q0.answer kind (fun q => q.serve kind.toNat body) = q0.overrun := if_pos hfull
    rw [hexec, hover, hq]
    rfl
  · have htaken : q0.answer kind (fun q => q.serve kind.toNat body)
        = (q0.serve kind.toNat body).state.respond kind (q0.serve kind.toNat body).code
            (q0.serve kind.toNat body).fields := if_neg (Nat.not_le.2 hroom)
    have hnoticed : q0.cab.Noticed (q0.serve kind.toNat body).state.cab :=
      (q0.serve_acts kind.toNat body).noticed
    generalize q0.serve kind.toNat body = a at htaken hnoticed
    have hmark : a.state.cab.overrunMark = s.cab.overrunMark := hnoticed.mark hroom
    refine ⟨a.state, a.code, a.fields, hexec.trans (congrArg Host.Outcome.next htaken), hmark, State.respond_mark,
      ?_⟩
    intro mark response after
    have hresponse :
        OutFrame.response kind a.code.byte (flagByte a.state.cab.overrunMark) a.fields.flatten = response := by
      rw [hmark]
      rfl
    refine ⟨fun hs => ?_, fun hserved hs => ?_⟩
    · obtain ⟨hsending, hresponses⟩ := hnoticed.busy hs
      obtain ⟨-, hwaiting⟩ :=
        State.respond_of_busy (q := a.state) (kind := kind) (code := a.code) (fields := a.fields) (hsending ▸ hs)
      exact ⟨hsending, hresponses, hresponse ▸ hwaiting⟩
    · obtain ⟨hnone, ⟨hfree, hnil⟩ | ⟨notice, hn⟩⟩ := hnoticed.free hs (hserved hs)
      · obtain ⟨hsending, hwaiting⟩ :=
          State.respond_of_free (q := a.state) (kind := kind) (code := a.code) (fields := a.fields) hfree hnil
        rw [hmark] at hsending
        exact ⟨hnone, .inl ⟨hfree, hnil, hresponse ▸ hwaiting, hsending⟩⟩
      · obtain ⟨hsending, hwaiting⟩ :=
          State.respond_of_busy (q := a.state) (kind := kind) (code := a.code) (fields := a.fields)
            (hn ▸ Option.some_ne_none _)
        exact ⟨hnone, .inr ⟨notice, hn, hsending, hresponse ▸ hwaiting⟩⟩

end
end
